-- ==== Sys2Proof/Word.lean ====
section
/-! DEFINITION. The word types of the C7042 link block and their plainest shapes: bytes, the 64-bit microsecond time,
car slots, one value per slot, and the two fixed-size frames (spec/00_scope.md R7, spec/20_memory.md R60). -/

namespace Sys2Proof

/-- A byte (R8). -/
abbrev Byte := BitVec 8

/-- A microsecond value, 64 bits (`US_W`, R7; D36). -/
abbrev Time := BitVec 64

/-- A car slot, one of 0..5 (`NCARS` = 6, R7; glossary "Car slot"). -/
abbrev Slot := Fin 6

/-- One value per car slot: the "register files" of R54. -/
abbrev PerSlot (α : Type) := Vector α 6

/-- An inbound frame, `IN_LEN` = 15 bytes, offset 0 first (R80). -/
abbrev InFrame := Vector Byte 15

/-- An outbound frame, `OUT_LEN` = 9 bytes, offset 0 first (R88). -/
abbrev OutFrame := Vector Byte 9

/-- The car slots in the order every rule loops over them, "for i in 0..5". -/
def allSlots : List Slot := [0, 1, 2, 3, 4, 5]

/-- The identity order `[0,1,2,3,4,5]` of `positions` (R35). -/
def identityOrder : PerSlot Slot := #v[0, 1, 2, 3, 4, 5]

end Sys2Proof
end

