-- ==== Sys2Proof/Syntax.lean ====
section
/-! DEFINITION. The instruction set of the block: the twelve host commands and the five input events of
spec/30_encoding.md R93 and R99, one constructor per row of spec/opcode_table.json, and the words they are presented as. -/

namespace Sys2Proof

/-- One input of the block, decoded. Operands are the unsigned fields of the word, taken as is (R95): a value out of
range is a value the meaning rejects (R190), not one the syntax excludes. -/
inductive Instr where
  /-- `STOP` (R176). -/
  | stop
  /-- `INIT laps, mask`: `LAPS = OPD[23:8]`, `MASK = OPD[7:0]` (R177). -/
  | init (laps : BitVec 16) (mask : BitVec 8)
  /-- `START` (R178). -/
  | start
  /-- `BIND car` (R179). -/
  | bind (car : BitVec 4)
  /-- `TRAIN` (R180). -/
  | train
  /-- `SET_POWER_RATE car, pct` (R181). -/
  | setPowerRate (car : BitVec 4) (pct : BitVec 8)
  /-- `SET_POWER car, pwr` (R182). -/
  | setPower (car : BitVec 4) (pwr : BitVec 8)
  /-- `SET_BRAKE car, v` (R183). -/
  | setBrake (car : BitVec 4) (v : BitVec 1)
  /-- `SET_LANE_CHANGE car, v` (R184). -/
  | setLaneChange (car : BitVec 4) (v : BitVec 1)
  /-- `GET_GAME_STATE sel` (R185). -/
  | getGameState (sel : BitVec 8)
  /-- `GET_LAST_UPDATE sel` (R186). -/
  | getLastUpdate (sel : BitVec 8)
  /-- `LED_RESET` (R187). -/
  | ledReset
  /-- `RX_BYTE data` (R141, R142). -/
  | rxByte (data : Byte)
  /-- `TX_READY` (R151). -/
  | txReady
  /-- `IO_ERROR` (R153). -/
  | ioError
  /-- `WATCHDOG_TICK` (R250). -/
  | watchdogTick
  /-- `TIMER_TICK` (R227). -/
  | timerTick
  deriving DecidableEq, Repr

/-- A word as it is presented: the port tells a command from an event (R106). -/
inductive PortWord where
  /-- A 32-bit word on the command port (R92). -/
  | command (w : BitVec 32)
  /-- A 12-bit word on the event port (R98). -/
  | event (e : BitVec 12)
  deriving DecidableEq, Repr

end Sys2Proof
end

