-- ==== Sys2Proof/Decode.lean ====
section
/-! DEFINITION. Decoding and encoding of the command word (spec/30_encoding.md R92 to R94) and the event word (R98 to
R100). A word that names no instruction is rejected by name. -/

namespace Sys2Proof

/-- Why a word names no instruction (R94, R100). -/
inductive DecodeReject where
  /-- OP 0x0 or 0xD..0xF: the operation is reserved (R94). -/
  | reservedOpcode (op : BitVec 4)
  /-- A field R93 shows as `0` is not zero (R94). -/
  | nonzeroField (op : BitVec 4)
  /-- KIND 0x0 or 0x6..0xF: the event is reserved (R100). -/
  | reservedKind (kind : BitVec 4)
  /-- An event other than `RX_BYTE` with `DATA` not zero (R100). -/
  | nonzeroData (kind : BitVec 4)
  deriving DecidableEq, Repr

/-- `i`, if the fields that must be zero are (R93, R94). -/
def ifZero (zero : Bool) (op : BitVec 4) (i : Instr) : Except DecodeReject Instr :=
  if zero then .ok i else .error (.nonzeroField op)

/-- The command of a 32-bit word (R92, R93): `OP = w[31:28]`, `CAR = w[27:24]`, `OPD = w[23:0]`. -/
def decodeCommand (w : BitVec 32) : Except DecodeReject Instr :=
  let op := w.extractLsb' 28 4
  let car := w.extractLsb' 24 4
  let low := w.extractLsb' 0 8
  let rest := w.extractLsb' 0 28
  let carMid := w.extractLsb' 8 20
  let mid := w.extractLsb' 8 16
  match op.toNat with
  | 0x1 => ifZero (rest == 0) op .stop
  | 0x2 => ifZero (car == 0) op (.init mid low)
  | 0x3 => ifZero (rest == 0) op .start
  | 0x4 => ifZero (w.extractLsb' 0 24 == 0) op (.bind car)
  | 0x5 => ifZero (rest == 0) op .train
  | 0x6 => ifZero (mid == 0) op (.setPowerRate car low)
  | 0x7 => ifZero (mid == 0) op (.setPower car low)
  | 0x8 => ifZero (w.extractLsb' 1 23 == 0) op (.setBrake car (w.extractLsb' 0 1))
  | 0x9 => ifZero (w.extractLsb' 1 23 == 0) op (.setLaneChange car (w.extractLsb' 0 1))
  | 0xA => ifZero (carMid == 0) op (.getGameState low)
  | 0xB => ifZero (carMid == 0) op (.getLastUpdate low)
  | 0xC => ifZero (rest == 0) op .ledReset
  | _ => .error (.reservedOpcode op)

/-- The event of a 12-bit word (R98, R99): `KIND = e[11:8]`, `DATA = e[7:0]`. -/
def decodeEvent (e : BitVec 12) : Except DecodeReject Instr :=
  let kind := e.extractLsb' 8 4
  let data := e.extractLsb' 0 8
  let ifNoData (i : Instr) : Except DecodeReject Instr := if data == 0 then .ok i else .error (.nonzeroData kind)
  match kind.toNat with
  | 0x1 => .ok (.rxByte data)
  | 0x2 => ifNoData .txReady
  | 0x3 => ifNoData .ioError
  | 0x4 => ifNoData .watchdogTick
  | 0x5 => ifNoData .timerTick
  | _ => .error (.reservedKind kind)

/-- The instruction a word presented on its port names, or why it names none (R106). -/
def decode : PortWord → Except DecodeReject Instr
  | .command w => decodeCommand w
  | .event e => decodeEvent e

/-- The word of an instruction, from the same tables (R93, R99); every field R93 shows as `0` is zero. -/
def encode : Instr → PortWord
  | .stop => .command (0x1#4 ++ 0#28)
  | .init laps mask => .command (0x2#4 ++ 0#4 ++ laps ++ mask)
  | .start => .command (0x3#4 ++ 0#28)
  | .bind car => .command (0x4#4 ++ car ++ 0#24)
  | .train => .command (0x5#4 ++ 0#28)
  | .setPowerRate car pct => .command (0x6#4 ++ car ++ 0#16 ++ pct)
  | .setPower car pwr => .command (0x7#4 ++ car ++ 0#16 ++ pwr)
  | .setBrake car v => .command (0x8#4 ++ car ++ 0#23 ++ v)
  | .setLaneChange car v => .command (0x9#4 ++ car ++ 0#23 ++ v)
  | .getGameState sel => .command (0xA#4 ++ 0#20 ++ sel)
  | .getLastUpdate sel => .command (0xB#4 ++ 0#20 ++ sel)
  | .ledReset => .command (0xC#4 ++ 0#28)
  | .rxByte data => .event (0x1#4 ++ data)
  | .txReady => .event (0x2#4 ++ 0#8)
  | .ioError => .event (0x3#4 ++ 0#8)
  | .watchdogTick => .event (0x4#4 ++ 0#8)
  | .timerTick => .event (0x5#4 ++ 0#8)

/-- A word of spec/opcode_table.json on the port its row's width names: a row of at most two bytes is an event word (12
bits), a wider one a command word (32 bits). DESIGN CHOICE, notes/assumptions/11.md. -/
def tableWord (nbits w : Nat) : PortWord :=
  if nbits ≤ 16 then .event (BitVec.ofNat 12 w) else .command (BitVec.ofNat 32 w)

/-- The instruction the decoder reads from a word of the opcode table. -/
def decodeTableWord (nbits w : Nat) : Option Instr :=
  match decode (tableWord nbits w) with
  | .ok i => some i
  | .error _ => none

end Sys2Proof
end

