-- ==== Sys2Proof/Config.lean ====
section
/-! DEFINITION. The parameters of spec/00_scope.md R7: the arguments the model takes. Each field's default is the value R7
takes; the fields the spec marks OPEN (D1, D3, D4, D5, D29, D40) or unaudited (I7, I24) may hold any other value, and
State carries the parameters, so that a statement about every state is a statement about every choice of them.
The frame lengths and `NCARS` are the types of Word.lean. -/

namespace Sys2Proof

/-- The parity of a serial line. -/
inductive Parity where
  | noParity
  | even
  | odd
  deriving DecidableEq, Repr

/-- The parameters of R7. The spec marks the CRC values and the bit positions OPEN; see notes/assumptions/3.md. -/
structure Params where
  /-- `CRC_POLY` (R110); must not be zero (R112). OPEN, D1. -/
  crcPoly : Byte := 0x07#8
  /-- `CRC_INIT` (R111). OPEN, D1. -/
  crcInit : Byte := 0x00#8
  /-- `CRC_REFLECT` (R110, R111). OPEN, D1. -/
  crcReflect : Bool := false
  /-- `CRC_XOROUT` (R111). OPEN, D1. -/
  crcXorOut : Byte := 0x00#8
  /-- `LAP_TIMER_BE` (R61): big-endian "unless the hardware defines otherwise". -/
  lapTimerBE : Bool := true
  /-- `CONN_BIT(i)` (R81). OPEN, D3. -/
  connBit : PerSlot (Fin 8) := #v[0, 1, 2, 3, 4, 5]
  /-- `CONN_ACTIVE_LOW` (R81). OPEN, D3. -/
  connActiveLow : Bool := false
  /-- `LED_HANDSET_BIT(i)` (R91). OPEN, D4. -/
  ledHandsetBit : PerSlot (Fin 8) := #v[0, 1, 2, 3, 4, 5]
  /-- `LED_GREEN_BIT` (R91). OPEN, D4. -/
  ledGreenBit : Fin 8 := 6
  /-- `LED_RED_BIT` (R91). OPEN, D4. -/
  ledRedBit : Fin 8 := 7
  /-- `LED_ACTIVE_LOW` (R91). OPEN, D4. -/
  ledActiveLow : Bool := false
  /-- `BTN_BIT(b)`, indexed by the button code of R102 (R86). OPEN, D5. -/
  btnBit : PerSlot (Fin 8) := #v[0, 1, 2, 3, 4, 5]
  /-- `TICK_US_NUM` (R116, C1). -/
  tickUsNum : Time := 32
  /-- `TICK_US_DEN` (R116, C1). -/
  tickUsDen : Time := 5
  /-- `SILENCE_US` (R250). -/
  silenceUs : Time := 1000000
  /-- `WATCHDOG_PERIOD_US` (R252): an environment duty, read by no rule of the block. OPEN, D40. -/
  watchdogPeriodUs : Time := 1000000
  /-- `GRACE_US` (R221). -/
  graceUs : Time := 2000000
  /-- `BIND_US` (R211). -/
  bindUs : Time := 3000000
  /-- `COAST_US` (R215). -/
  coastUs : Time := 1500000
  /-- `COAST_POWER` (R215), a value of the 6-bit power field. -/
  coastPower : BitVec 6 := 40
  /-- `UPDATE_US` (R223). -/
  updateUs : Time := 1000000
  /-- `OP_MODE_NORMAL` (R26, R89). -/
  opModeNormal : Byte := 0xFF#8
  /-- `OP_MODE_AUX` (R26, R89): no rule selects it (D31). -/
  opModeAux : Byte := 0xBF#8
  /-- `POWER_MAX` (R182). -/
  powerMax : Byte := 63
  /-- `RATE_MIN` (R7, R95). -/
  rateMin : Byte := 1
  /-- `RATE_MAX` (R181). -/
  rateMax : Byte := 100
  /-- `POWER_RATE_RESET` (R39, D37). -/
  powerRateReset : BitVec 7 := 100
  /-- `TARGET_LAPS_RESET` (R31, D37). -/
  targetLapsReset : BitVec 32 := 0
  /-- `EVQ_DEPTH` (R228): `none` is unbounded. OPEN, D29. -/
  evqDepth : Option Nat := none
  /-- `BAUD`, bit/s (R283). With the three below it describes the line to the environment: no rule of the block reads them. -/
  baud : Nat := 19200
  /-- Data bits of the framing (R283). -/
  dataBits : Nat := 8
  /-- Parity of the framing (R283). -/
  parity : Parity := .noParity
  /-- Stop bits of the framing (R283). -/
  stopBits : Nat := 1
  deriving DecidableEq, Repr

namespace Params

/-- The values R7 takes. -/
def default : Params := {}

/-- The eight LED bits, green and red first. -/
def ledBits (p : Params) : List (Fin 8) := p.ledGreenBit :: p.ledRedBit :: p.ledHandsetBit.toList

/-- The constraints the spec puts on the parameters: a nonzero polynomial (R112), a nonzero tick denominator (R116), one
bit per LED, button and handset (R81, R86, R91), powers that fit the 6-bit field and rates in 1..100 (R39, R95, R182). -/
def wf (p : Params) : Bool :=
  p.crcPoly != 0#8 && p.tickUsDen != 0#64 &&
  decide p.ledBits.Nodup && decide p.btnBit.toList.Nodup && decide p.connBit.toList.Nodup &&
  decide (p.powerMax.toNat ≤ 63) && decide (p.rateMin.toNat = 1) && decide (p.rateMax.toNat ≤ 100) &&
  decide (1 ≤ p.powerRateReset.toNat) && decide (p.powerRateReset.toNat ≤ p.rateMax.toNat)

end Params

end Sys2Proof
end

