-- ==== Sys2Proof/Machine/Codec.lean ====
section
/-! DEFINITION. The Frame Codec (spec/40_frame_codec.md): single bits of a byte, the CRC-8, the outbound serializer, the
inbound accessors and the lap-timer conversion. Pure functions of the parameters and the bytes; they change no state. -/

namespace Sys2Proof.Machine

/-! Bits of a byte (R8). -/

/-- `b[i]` (R8). -/
def readBit (b : Byte) (i : Fin 8) : Bool := b.getLsbD i.val

/-- `b` with `b[i] <- x`, the other bits kept (R8). -/
def writeBit (b : Byte) (i : Fin 8) (x : Bool) : Byte :=
  if x then b ||| (1#8 <<< i.val) else b &&& ~~~(1#8 <<< i.val)

/-- `reverse8` "swaps bit k and bit 7-k" (R110). -/
def reverse8 (b : Byte) : Byte := b.reverse

/-! The checksum. -/

/-- One of the eight shifts of `crc8_update` (R110). -/
def crcShift (p : Params) (c : Byte) : Byte :=
  if c.getLsbD 7 then (c <<< 1) ^^^ p.crcPoly else c <<< 1

/-- `crc8_update(c, b)` (R110). -/
def crc8Update (p : Params) (c b : Byte) : Byte :=
  (crcShift p)^[8] (c ^^^ (if p.crcReflect then reverse8 b else b))

/-- `crc8(bytes)` (R111). -/
def crc8 (p : Params) (bytes : List Byte) : Byte :=
  let c := bytes.foldl (crc8Update p) p.crcInit
  (if p.crcReflect then reverse8 c else c) ^^^ p.crcXorOut

/-! The outbound direction. -/

/-- `encode_out(op, d, led)`: the layout of R88 with its checksum (R113). -/
def encodeOut (p : Params) (op : Byte) (d : PerSlot Byte) (led : Byte) : OutFrame :=
  #v[op, d[0], d[1], d[2], d[3], d[4], d[5], led, crc8 p (op :: (d.toList ++ [led]))]

/-! The asserted-high view of a drive byte (R90). -/

/-- The brake is on: bit 7 is clear (R90). -/
def driveBrake (d : Byte) : Bool := !readBit d 7

/-- The lane change is on: bit 6 is clear (R90). -/
def driveLane (d : Byte) : Bool := !readBit d 6

/-- The commanded power, `(~drive)[5:0]` (R90). -/
def drivePower (d : Byte) : BitVec 6 := (~~~d).extractLsb' 0 6

/-! The inbound direction: the accessors of R81 to R86, R115. -/

/-- `frame_ok(f)` (R114). -/
def frameOk (p : Params) (f : InFrame) : Bool := crc8 p (f.toList.take 14) == f[14]

/-- `conn_in(f, i)` (R81). -/
def connIn (p : Params) (f : InFrame) (i : Slot) : Bool := readBit f[0] p.connBit[i] ^^ p.connActiveLow

/-- Bit 7 of `status`, track power: no rule reads it (R81). -/
def trackPowerIn (f : InFrame) : Bool := readBit f[0] 7

/-- The handset byte of slot `i`, offset 1 + i (R80). -/
def handsetIn (f : InFrame) (i : Slot) : Byte := f[1 + i.val]

/-- `brake_in(h)`: bit 7 is clear (R82). -/
def brakeIn (h : Byte) : Bool := !readBit h 7

/-- `lane_in(h)`: bit 6 is clear (R82). -/
def laneIn (h : Byte) : Bool := !readBit h 6

/-- `power_in(h) = (~h)[5:0]` (R82). -/
def powerIn (h : Byte) : BitVec 6 := (~~~h).extractLsb' 0 6

/-- `aux_current`, raw telemetry: no rule reads it (R83). -/
def auxCurrentIn (f : InFrame) : Byte := f[7]

/-- `car_in(f) = f[8][2:0]` (R84). -/
def carIn (f : InFrame) : BitVec 3 := f[8].extractLsb' 0 3

/-- `lap_timer(f)`, big-endian at offsets 9..12 (R61, R85); the other order where the parameter `LAP_TIMER_BE` is false
(PRESUMED, notes/assumptions/12.md). -/
def lapTimer (p : Params) (f : InFrame) : BitVec 32 :=
  if p.lapTimerBE then f[9] ++ f[10] ++ f[11] ++ f[12] else f[12] ++ f[11] ++ f[10] ++ f[9]

/-- `button_status` (R86). -/
def buttonsIn (f : InFrame) : Byte := f[13]

/-- The button of code `b` is pressed: its bit is 0 (R86). -/
def pressedIn (p : Params) (f : InFrame) (b : Fin 6) : Bool := !readBit (buttonsIn f) p.btnBit[b]

/-- The field values `decode_in` gives (R115). -/
structure InFields where
  /-- Connectivity per handset (R81). -/
  conn : PerSlot Bool
  /-- Bit 7 of `status` (R81). -/
  trackPower : Bool
  /-- Brake asserted, per slot (R82). -/
  brake : PerSlot Bool
  /-- Lane change asserted, per slot (R82). -/
  lane : PerSlot Bool
  /-- Power 0..63, per slot (R82). -/
  power : PerSlot (BitVec 6)
  /-- `aux_current` (R83). -/
  auxCurrent : Byte
  /-- The low three bits of `carid_and_flag` (R84). -/
  car : BitVec 3
  /-- The device's tick count (R85). -/
  lapTimer : BitVec 32
  /-- Pressed, per button code (R86). -/
  pressed : PerSlot Bool
  deriving DecidableEq, Repr

/-- `decode_in(f)`: nothing when the checksum fails, else every field by its mask (R115). The decode path reads the
accessors themselves, as R115 allows. -/
def decodeIn (p : Params) (f : InFrame) : Option InFields :=
  if frameOk p f then
    some
      { conn := Vector.ofFn (connIn p f)
        trackPower := trackPowerIn f
        brake := Vector.ofFn fun i => brakeIn (handsetIn f i)
        lane := Vector.ofFn fun i => laneIn (handsetIn f i)
        power := Vector.ofFn fun i => powerIn (handsetIn f i)
        auxCurrent := auxCurrentIn f
        car := carIn f
        lapTimer := Sys2Proof.Machine.lapTimer p f
        pressed := Vector.ofFn (pressedIn p f) }
  else none

/-- `ticks_to_us(n) = (n * TICK_US_NUM) / TICK_US_DEN` in 64 bits, truncating (R116). -/
def ticksToUs (p : Params) (n : BitVec 32) : Time := (n.zeroExtend 64 * p.tickUsNum) / p.tickUsDen

end Sys2Proof.Machine
end

