-- ==== Sys2Proof/Machine/State.lean ====
section
/-! DEFINITION. The state of the C7042 link block: every piece of state spec/10_state.md R20 to R51 names, the reasons a
step can stop, and power-on reset (R57, spec/70_reset_and_hazards.md R300, R301). Plain data. -/

namespace Sys2Proof.Machine

/-- `link_state` (R20): codes READ 0, WRITE 1, HALTED 2; code 3 is never held. -/
inductive LinkState where
  | read
  | write
  | halted
  deriving DecidableEq, Repr

/-- `led_phase` (R29): the progress of the two-phase LED reset, 0, 1 or 2. -/
inductive LedPhase where
  /-- 0: no reset pending. -/
  | idle
  /-- 1: the next WRITE cycle is cycle 1. -/
  | cycle1
  /-- 2: the next WRITE cycle is cycle 2. -/
  | cycle2
  deriving DecidableEq, Repr

/-- `game_state` (R30), in the order of its codes 0..5 (R101). -/
inductive GameState where
  | stopped
  | countdown
  | race
  | starting
  | training
  | binding
  deriving DecidableEq, Repr

/-- The six buttons, in the order of their codes 0..5, which is their priority (R102). -/
inductive Button where
  | start
  | right
  | up
  | enter
  | left
  | down
  deriving DecidableEq, Repr

/-- `cmd_status` (R97): OK 0, INVALID_ARGUMENT 1; codes 2 and 3 are never written. -/
inductive CmdStatus where
  | ok
  | invalidArgument
  deriving DecidableEq, Repr

/-- The event records of R103, one kind per Event Sink method. -/
inductive Event where
  | button (code : Button)
  | lap (car : Slot) (lapNumber : BitVec 32) (lapTimeUs : Time) (isRecord : Bool)
  | falseStart (car : Slot)
  | gameFinished (gameTimeUs : Time) (ranked : List Slot)
  | gameUpdate (gameTimeUs : Time) (ranked : List Slot)
  | stateChange (state : GameState)
  | connectivityChange (car : Slot) (connected : Bool)
  deriving DecidableEq, Repr

/-- The diagnostic codes of R104. -/
inductive DiagCode where
  /-- 1: an I/O error stopped the cycle (R153). -/
  | ioFailure
  /-- 2: the watchdog declared the link lost (R251). -/
  | disconnect
  /-- 3: the block asks for the serial device to be closed and reopened (R251). -/
  | reopen
  /-- 4: the first good frame after power-on or reconnect (R145). -/
  | connected
  deriving DecidableEq, Repr

/-- The sticky fault bits (R51); no rule clears one. -/
structure FaultBits where
  /-- `EVQ_OVERFLOW`: an enqueue found the bounded queue full (R228). -/
  evqOverflow : Bool
  /-- `ILLEGAL_EVENT`: a reserved event word was presented (R154). -/
  illegalEvent : Bool
  deriving DecidableEq, Repr

/-- One slot of the car state file (R37 to R43). -/
structure CarState where
  /-- `active[i]`: selected for the current race (R37). -/
  active : Bool
  /-- `finished[i]` (R38). -/
  finished : Bool
  /-- `power_rate[i]`, 1..100 (R39). -/
  powerRate : BitVec 7
  /-- `start_time[i]`: recorded, read by no rule (R40, I25). -/
  startTime : Time
  /-- `last_crossing_time[i]` (R41). -/
  lastCrossingTime : Time
  /-- `best_lap_time[i]`, 0 = none (R42). -/
  bestLapTime : Time
  /-- `laps[i]` (R43). -/
  laps : BitVec 32
  deriving DecidableEq, Repr

/-- One input of the environment (R5): a word on its port with the clock value `t`, and how many records the Event Sink
has removed from the head of `event_q` since the input before (R48; notes/assumptions/5.md). -/
structure Input where
  /-- The clock value presented with the input (R52). -/
  t : Time
  /-- Records the Event Sink removed before this step; 0 where it removed none. -/
  sinkTakes : Nat := 0
  /-- The word and its port (R92, R98). -/
  word : PortWord
  deriving DecidableEq, Repr

/-- The state of the block, and beside it the parameters (R7) and the environment's inputs (R5, R52). -/
structure State where
  /-- The arguments of R7. The MODEL's own field: no rule writes it (notes/assumptions/3.md). -/
  params : Params
  /-- What the environment has yet to present, head first. The MODEL's own field (notes/assumptions/1.md). -/
  inputs : List Input
  /-- The input `t` of the step being run (R52). The MODEL's own field (notes/assumptions/1.md). -/
  clock : Time
  /-- `link_state` (R20). -/
  linkState : LinkState
  /-- `rx_buf` (R21). -/
  rxBuf : InFrame
  /-- `rx_count`, 4 bits (R21). -/
  rxCount : BitVec 4
  /-- `prev_frame` (R22). -/
  prevFrame : InFrame
  /-- `tx_buf` (R23). -/
  txBuf : OutFrame
  /-- `tx_idx`, 4 bits (R23). -/
  txIdx : BitVec 4
  /-- `last_update` (R24). -/
  lastUpdate : Time
  /-- `link_connected` (R25). -/
  linkConnected : Bool
  /-- `op_mode` (R26). -/
  opMode : Byte
  /-- `drive[0..5]`, active-low (R27). -/
  drive : PerSlot Byte
  /-- `led_status` (R28). -/
  ledStatus : Byte
  /-- `led_phase` (R29). -/
  ledPhase : LedPhase
  /-- `game_state` (R30). -/
  gameState : GameState
  /-- `target_laps` (R31). -/
  targetLaps : BitVec 32
  /-- `active_car_count`, 3 bits (R32). -/
  activeCarCount : BitVec 3
  /-- `finished_car_count`, 3 bits (R33). -/
  finishedCarCount : BitVec 3
  /-- `game_time` (R34). -/
  gameTime : Time
  /-- `positions[0..5]` (R35). -/
  positions : PerSlot Slot
  /-- `next_update` (R36). -/
  nextUpdate : Time
  /-- The car state file (R37 to R43). -/
  cars : PerSlot CarState
  /-- `conn[0..5]`, the ConnectivityTable (R44). -/
  conn : PerSlot Bool
  /-- `bind_start` (R45). -/
  bindStart : Time
  /-- `bind_target` (R45). -/
  bindTarget : Slot
  /-- `finish_pending` (R46). -/
  finishPending : Bool
  /-- `finish_deadline` (R46). -/
  finishDeadline : Time
  /-- `cmd_status` (R47). -/
  cmdStatus : CmdStatus
  /-- `cmd_result` (R47). -/
  cmdResult : BitVec 32
  /-- `event_q` (R48). -/
  eventQ : List Event
  /-- `diag_log` (R49). -/
  diagLog : List DiagCode
  /-- `tx_out` (R50). -/
  txOut : List Byte
  /-- `fault` (R51). -/
  fault : FaultBits
  deriving DecidableEq, Repr

/-- The reasons a step can stop with a fault. There are none: no input ends the block's operation (R315), and every error
is handled by the rule that detects it (R280). The fault bits of R51 are state, not stops. -/
inductive Fault where
  deriving DecidableEq, Repr

/-- The reasons a step can be refused. -/
inductive Refusal where
  /-- Raised by an arm of `exec` whose instruction has no meaning yet; safe: the model stops. No arm of this model does. -/
  | notModelled (mnemonic : String)
  deriving DecidableEq, Repr

/-- What a meaning answers. -/
abbrev Result := Host.Outcome State Fault Refusal

/-- A car slot at reset (R57). -/
def CarState.reset (p : Params) : CarState where
  active := false
  finished := false
  powerRate := p.powerRateReset
  startTime := 0
  lastCrossingTime := 0
  bestLapTime := 0
  laps := 0

/-- Power-on reset with the parameters `p` and the clock value `t0` (R300): the table of R57, and the frame the closing
`enter_write` builds from it (R301). Nothing has been presented yet. -/
def State.powerOn (p : Params) (t0 : Time) : State where
  params := p
  inputs := []
  clock := t0
  linkState := .write
  rxBuf := Vector.replicate 15 0#8
  rxCount := 0
  prevFrame := Vector.replicate 15 0#8
  txBuf := encodeOut p p.opModeNormal (Vector.replicate 6 0xFF#8) 0x00#8
  txIdx := 0
  lastUpdate := t0
  linkConnected := false
  opMode := p.opModeNormal
  drive := Vector.replicate 6 0xFF#8
  ledStatus := 0x00#8
  ledPhase := .idle
  gameState := .stopped
  targetLaps := p.targetLapsReset
  activeCarCount := 0
  finishedCarCount := 0
  gameTime := 0
  positions := identityOrder
  nextUpdate := 0
  cars := Vector.replicate 6 (CarState.reset p)
  conn := Vector.replicate 6 false
  bindStart := 0
  bindTarget := 0
  finishPending := false
  finishDeadline := 0
  cmdStatus := .ok
  cmdResult := 0
  eventQ := []
  diagLog := []
  txOut := []
  fault := { evqOverflow := false, illegalEvent := false }

/-- The machine right after reset: power-on at the parameter values R7 takes, with the clock value 0 (DESIGN CHOICE,
notes/assumptions/3.md and 4.md). -/
def State.reset : State := State.powerOn Params.default 0

end Sys2Proof.Machine
end

