-- ==== Sys2Proof/Machine/Operands.lean ====
section
/-! DEFINITION. The operand forms (spec/30_encoding.md R95), the value codes (R97, R101, R102, R104) and the read selectors
(R96). -/

namespace Sys2Proof.Machine

/-- The slot a `CAR` operand names: none at 6 or above (R95, R190). -/
def carOperand (car : BitVec 4) : Option Slot :=
  if h : car.toNat < 6 then some ⟨car.toNat, h⟩ else none

/-- The low and the high half of a 64-bit value (R96). -/
def lowHalf (x : Time) : BitVec 32 := x.extractLsb' 0 32

/-- See `lowHalf`. -/
def highHalf (x : Time) : BitVec 32 := x.extractLsb' 32 32

/-- The code of `link_state` (R20). -/
def linkStateCode : LinkState → BitVec 2
  | .read => 0
  | .write => 1
  | .halted => 2

/-- The code of `led_phase` (R29). -/
def ledPhaseCode : LedPhase → BitVec 2
  | .idle => 0
  | .cycle1 => 1
  | .cycle2 => 2

/-- The game-state codes (R101). -/
def gameStateCode : GameState → BitVec 3
  | .stopped => 0
  | .countdown => 1
  | .race => 2
  | .starting => 3
  | .training => 4
  | .binding => 5

/-- The button codes (R102). -/
def buttonCode : Button → Fin 6
  | .start => 0
  | .right => 1
  | .up => 2
  | .enter => 3
  | .left => 4
  | .down => 5

/-- The response codes (R97). -/
def cmdStatusCode : CmdStatus → BitVec 2
  | .ok => 0
  | .invalidArgument => 1

/-- The diagnostic codes (R104). -/
def diagCode : DiagCode → Nat
  | .ioFailure => 1
  | .disconnect => 2
  | .reopen => 3
  | .connected => 4

/-- `positions` packed, "entry k in bits [3k+2:3k]" (R96). -/
def packPositions (pos : PerSlot Slot) : BitVec 32 :=
  allSlots.foldl (fun acc k => acc ||| (BitVec.ofNat 32 pos[k].val <<< (3 * k.val))) 0

/-- The selector values of `GET_GAME_STATE`: none for SEL 7..255 (R96). -/
def gameStateSelector (s : State) (sel : BitVec 8) : Option (BitVec 32) :=
  match sel.toNat with
  | 0 => some ((gameStateCode s.gameState).zeroExtend 32)
  | 1 => some s.targetLaps
  | 2 => some (s.activeCarCount.zeroExtend 32)
  | 3 => some (s.finishedCarCount.zeroExtend 32)
  | 4 => some (lowHalf s.gameTime)
  | 5 => some (highHalf s.gameTime)
  | 6 => some (packPositions s.positions)
  | _ => none

/-- The selector values of `GET_LAST_UPDATE`: none for SEL 2..255 (R96). -/
def lastUpdateSelector (s : State) (sel : BitVec 8) : Option (BitVec 32) :=
  match sel.toNat with
  | 0 => some (lowHalf s.lastUpdate)
  | 1 => some (highHalf s.lastUpdate)
  | _ => none

end Sys2Proof.Machine
end

