-- ==== Sys2Proof/Machine/Flags.lean ====
section
/-! DEFINITION. The one-bit status values of spec/10_state.md R55. The block has no condition codes: what is computed here
is the sticky fault bits and the counts of set bits the rules compare. -/

namespace Sys2Proof.Machine

/-- Sets the sticky bit `EVQ_OVERFLOW` (R51, R228). -/
def setEvqOverflow (s : State) : State := { s with fault := { s.fault with evqOverflow := true } }

/-- Sets the sticky bit `ILLEGAL_EVENT` (R51, R154). -/
def setIllegalEvent (s : State) : State := { s with fault := { s.fault with illegalEvent := true } }

/-- The number of slots whose flag is set. -/
def countSlots (f : Slot → Bool) : Nat := allSlots.countP f

/-- `popcount(MASK[5:0])` (R8, R177). -/
def maskPopcount (mask : BitVec 8) : BitVec 3 := BitVec.ofNat 3 (countSlots fun i => mask.getLsbD i.val)

/-- All active cars are finished, as the block tests it: the counts are equal (R220, R227). -/
def allFinished (s : State) : Bool := s.finishedCarCount == s.activeCarCount

end Sys2Proof.Machine
end

