-- ==== Sys2Proof/Machine/Ops.lean ====
section
/-! DEFINITION. The shared operations: presenting an input, the output lists, the command response with `reject` (the
block's one way of turning a caller away; it has no trap entry and no trap return, spec/60_exceptions.md R280), the drive
bytes, race data, the LED reset, `set_state` and `enter_write`. -/

namespace Sys2Proof.Machine

/-! Presenting an input (R5, R52). -/

/-- The state in which the step on `inp` begins: `t` is the input's clock value, the Event Sink has removed what it
removed from the head of `event_q` (R48), and `rest` is what remains to be presented. -/
def present (inp : Input) (rest : List Input) (s : State) : State :=
  { s with inputs := rest, clock := inp.t, eventQ := s.eventQ.drop inp.sinkTakes }

/-! Outputs. -/

/-- `log(d)` (R49). -/
def log (d : DiagCode) (s : State) : State := { s with diagLog := s.diagLog ++ [d] }

/-- `emit(b)` (R50). -/
def emit (b : Byte) (s : State) : State := { s with txOut := s.txOut ++ [b] }

/-- `event_q` holds `EVQ_DEPTH` records, where that is bounded (R228). -/
def evqFull (s : State) : Bool :=
  match s.params.evqDepth with
  | none => false
  | some depth => decide (depth ≤ s.eventQ.length)

/-- `enqueue(e)`: appended to the tail, or dropped with `EVQ_OVERFLOW` where a bounded queue is full (R228). -/
def enqueue (e : Event) (s : State) : State :=
  if evqFull s then setEvqOverflow s else { s with eventQ := s.eventQ ++ [e] }

/-! The command response (R97, R190). -/

/-- `respond(s, r)` (R190). -/
def respond (st : CmdStatus) (r : BitVec 32) (s : State) : State := { s with cmdStatus := st, cmdResult := r }

/-- `reject()`, the InvalidArgument path (R190, R273): nothing but the response is written. -/
def reject (s : State) : State := respond .invalidArgument 0 s

/-! Loops. -/

/-- "for i in 0..5", each turn seeing what the turns before it wrote (R67). -/
def forSlots (f : Slot → State → State) (s : State) : State := allSlots.foldl (fun acc i => f i acc) s

/-! Drive bytes (R175, R174, R182 to R184). -/

/-- `drive_modify(i, g)`: the stored byte's complement is modified and complemented again (R175). -/
def driveModify (i : Slot) (g : Byte → Byte) (s : State) : State :=
  { s with drive := s.drive.set i (~~~ g (~~~ s.drive[i])) }

/-- `cut_power()`: power 0 and lane change off on every slot, the brake bit kept (R174). -/
def cutPower (s : State) : State := forSlots (fun i => driveModify i (· &&& 0x80#8)) s

/-- `(p * power_rate[i]) / 100`, exact and truncating (R182, D36). -/
def scaledPower (p : Byte) (rate : BitVec 7) : Byte := BitVec.ofNat 8 (p.toNat * rate.toNat / 100)

/-- `set_power(i, p)` (R182). -/
def setPower (i : Slot) (p : Byte) (s : State) : State :=
  driveModify i (fun v => (v &&& 0xC0#8) ||| scaledPower p s.cars[i].powerRate) s

/-- `set_brake(i, on)` (R183). -/
def setBrake (i : Slot) (on : Bool) (s : State) : State :=
  driveModify i (fun v => if on then v ||| 0x80#8 else v &&& 0x7F#8) s

/-- `set_lane_change(i, on)` (R184). -/
def setLaneChange (i : Slot) (on : Bool) (s : State) : State :=
  driveModify i (fun v => if on then v ||| 0x40#8 else v &&& 0xBF#8) s

/-! Cars and race data. -/

/-- Writes the record of slot `i`. -/
def updateCar (i : Slot) (f : CarState → CarState) (s : State) : State := { s with cars := s.cars.set i (f s.cars[i]) }

/-- `reset_race_data()`: laps, best lap, finished, the finished count and the positions; nothing else (R173). -/
def resetRaceData (s : State) : State :=
  { s with
    cars := Vector.ofFn fun i => { s.cars[i] with laps := 0, bestLapTime := 0, finished := false }
    finishedCarCount := 0
    positions := identityOrder }

/-! The LED reset (R147 to R150). -/

/-- `request_led_reset()` (R150). -/
def requestLedReset (s : State) : State := { s with ledPhase := .cycle1 }

/-- Writes the lit value of one LED: the bit written is `lit XOR LED_ACTIVE_LOW` (R91). -/
def writeLed (bit : Fin 8) (lit : Bool) (s : State) : State :=
  { s with ledStatus := writeBit s.ledStatus bit (lit ^^ s.params.ledActiveLow) }

/-! Transitions (R170). -/

/-- The states whose entry resets race data (R170). -/
def entryResetsRaceData : GameState → Bool
  | .countdown => true
  | .starting => true
  | .training => true
  | .binding => true
  | .stopped => false
  | .race => false

/-- `set_state(g)`, the only writer of `game_state`: nothing on no change, else the event and the entry effects, in the
order of the rule (R170, C3). -/
def setState (g : GameState) (s : State) : State :=
  if g = s.gameState then s
  else
    let s := enqueue (.stateChange g) { s with gameState := g }
    let s := if g = .race then s else requestLedReset s
    let s := if entryResetsRaceData g then resetRaceData s else s
    if g = .stopped then cutPower s else s

/-! Entering WRITE (R147 to R149). -/

/-- `led_cycle1()`: green and red lit (R148). -/
def ledCycle1 (s : State) : State :=
  let s := writeLed s.params.ledGreenBit true s
  let s := writeLed s.params.ledRedBit true s
  { s with ledPhase := .cycle2 }

/-- `led_cycle2()`: red unlit, green lit, the update deadline cleared, STARTING promoted to RACE (R149). -/
def ledCycle2 (s : State) : State :=
  let s := writeLed s.params.ledRedBit false s
  let s := writeLed s.params.ledGreenBit true s
  let s := { s with nextUpdate := 0, ledPhase := .idle }
  if s.gameState = .starting then setState .race s else s

/-- The LED-reset cycle the pending phase asks for (R147). -/
def ledCycle (s : State) : State :=
  match s.ledPhase with
  | .idle => s
  | .cycle1 => ledCycle1 s
  | .cycle2 => ledCycle2 s

/-- `enter_write()`: the pending LED cycle, then the outbound frame encoded once from what it left (R147, R70). -/
def enterWrite (s : State) : State :=
  let s := ledCycle s
  { s with txBuf := encodeOut s.params s.opMode s.drive s.ledStatus, txIdx := 0, linkState := .write }

end Sys2Proof.Machine
end

