-- ==== Sys2Proof/Machine/FramePath.lean ====
section
/-! DEFINITION. The decode path, once per accepted frame: `on_frame` and its five steps, the ranking and the grace-delay
schedule (spec/43_race_frame_path.md R210 to R226). `c` is the accepted frame, `p` the previous accepted one; the clock
input is `State.clock`. -/

namespace Sys2Proof.Machine

/-! Step 1: binding. -/

/-- The LED byte in BINDING: red and the target's handset lit, all else unlit (R211, D33). -/
def bindingPattern (p : Params) (target : Slot) : Byte :=
  let lit := (1#8 <<< p.ledRedBit.val) ||| (1#8 <<< p.ledHandsetBit[target].val)
  if p.ledActiveLow then ~~~lit else lit

/-- `binding_step()` (R211). -/
def bindingStep (s : State) : State :=
  if s.clock - s.bindStart < s.params.bindUs then
    { s with ledStatus := bindingPattern s.params s.bindTarget }
  else requestLedReset (setState .training s)

/-! Step 2: connectivity and handset LEDs. -/

/-- One turn of `connectivity_step` (R212). -/
def connectivityOf (c : InFrame) (i : Slot) (s : State) : State :=
  let x := connIn s.params c i
  let s := writeLed s.params.ledHandsetBit[i] x s
  if x = s.conn[i] then s
  else
    let s := enqueue (.connectivityChange i x) s
    { s with conn := s.conn.set i x }

/-- `connectivity_step(c)`: slots in order (R212). -/
def connectivityStep (c : InFrame) (s : State) : State := forSlots (connectivityOf c) s

/-! Step 3: handsets to drive bytes. -/

/-- `map_handset(i, h, hp)`: brake, lane change and power, each where its bits differ (R214). -/
def mapHandset (i : Slot) (h hp : Byte) (s : State) : State :=
  let d := h ^^^ hp
  let s := if readBit d 7 then setBrake i (brakeIn h) s else s
  let s := if readBit d 6 then setLaneChange i (laneIn h) s else s
  if d.extractLsb' 0 6 ≠ 0 then setPower i ((powerIn h).zeroExtend 8) s else s

/-- `coast(i)`: power `COAST_POWER` raw while the elapsed game time is under `COAST_US`, then 0 (R215, D11). -/
def coast (i : Slot) (s : State) : State :=
  let e := s.gameTime - s.cars[i].lastCrossingTime
  let pw : Byte := if e < s.params.coastUs then s.params.coastPower.zeroExtend 8 else 0
  driveModify i (fun v => (v &&& 0xC0#8) ||| pw) s

/-- The slot's handset is mapped to its drive byte (R213). -/
def slotMapped (s : State) (i : Slot) : Bool :=
  decide (s.gameState = .training) || (s.cars[i].active && !s.cars[i].finished)

/-- One turn of `drive_step` (R213). -/
def driveOf (c p : InFrame) (i : Slot) (s : State) : State :=
  if slotMapped s i then mapHandset i (handsetIn c i) (handsetIn p i) s
  else if s.cars[i].active && s.cars[i].finished then coast i s
  else s

/-- `drive_step(c, p)`: nothing in STOPPED (R213). -/
def driveStep (c p : InFrame) (s : State) : State :=
  if s.gameState = .stopped then s else forSlots (driveOf c p) s

/-! Ranking. -/

/-- `before(a, b)`: more laps, then the earlier crossing, then the lower index (R225). -/
def before (cars : PerSlot CarState) (a b : Slot) : Bool :=
  if cars[a].laps ≠ cars[b].laps then decide (cars[a].laps > cars[b].laps)
  else if cars[a].lastCrossingTime ≠ cars[b].lastCrossingTime then
    decide (cars[a].lastCrossingTime < cars[b].lastCrossingTime)
  else decide (a < b)

/-- The slots sorted by `before` (R226). -/
def rankedSlots (cars : PerSlot CarState) : List Slot :=
  allSlots.insertionSort (fun a b => before cars a b = true)

/-- `rank()`: all six indices sorted into `positions` (R226). -/
def rank (s : State) : State := { s with positions := Vector.ofFn fun k => (rankedSlots s.cars).getD k.val k }

/-- `report()`: every slot in TRAINING, otherwise the active ones, in ranked order (R226). -/
def report (s : State) : List Slot :=
  s.positions.toList.filter fun i => decide (s.gameState = .training) || s.cars[i].active

/-! Step 4: crossings. -/

/-- `schedule_finish()` (R221). -/
def scheduleFinish (s : State) : State :=
  { s with finishPending := true, finishDeadline := s.clock + s.params.graceUs }

/-- The finish test of `count_lap`, in 33 bits (R220). -/
def reachedTarget (s : State) (k : Slot) : Bool := decide (s.cars[k].laps.toNat + 1 ≥ s.targetLaps.toNat)

/-- `count_lap(k)` (R220). -/
def countLap (k : Slot) (s : State) : State :=
  if s.gameState = .race ∧ reachedTarget s k = true then
    let s := updateCar k (fun car => { car with finished := true }) s
    let s := { s with finishedCarCount := s.finishedCarCount + 1 }
    if allFinished s then scheduleFinish s else s
  else updateCar k (fun car => { car with laps := car.laps + 1 }) s

/-- `is_record(k, lap_time)` (R219). -/
def isRecord (car : CarState) (lapTime : Time) : Bool :=
  decide (car.bestLapTime = 0) || decide (lapTime < car.bestLapTime)

/-- `lap_bookkeeping(k, now)` (R218). -/
def lapBookkeeping (k : Slot) (now : Time) (s : State) : State :=
  let lapTime := now - s.cars[k].lastCrossingTime
  let s := updateCar k (fun car => { car with lastCrossingTime := now }) s
  let s :=
    if s.cars[k].laps > 0 then
      let rec? := isRecord s.cars[k] lapTime
      let s := if rec? then updateCar k (fun car => { car with bestLapTime := lapTime }) s else s
      enqueue (.lap k s.cars[k].laps lapTime rec?) s
    else updateCar k (fun car => { car with startTime := now }) s
  countLap k s

/-- `false_start(k)`: the event, then STOPPED (R222). -/
def falseStart (k : Slot) (s : State) : State := setState .stopped (enqueue (.falseStart k) s)

/-- The crossing counts for the car's laps (R217, D12). -/
def crossingCounts (s : State) (k : Slot) : Bool :=
  decide (s.gameState = .training) ||
    (decide (s.gameState = .race) && s.cars[k].active && !s.cars[k].finished)

/-- `crossing(k, now)` (R217). -/
def crossing (k : Slot) (now : Time) (s : State) : State :=
  if crossingCounts s k then lapBookkeeping k now s
  else if s.gameState = .starting ∨ s.gameState = .countdown then falseStart k s
  else s

/-- The state is one in which the game time runs: RACE or TRAINING (R216, R223). -/
def gameTimeRuns (s : State) : Bool := decide (s.gameState = .race) || decide (s.gameState = .training)

/-- `update_check(now)`: strict, at most one update a crossing frame (R223). -/
def updateCheck (now : Time) (s : State) : State :=
  if gameTimeRuns s ∧ now > s.nextUpdate then
    let s := rank s
    let s := enqueue (.gameUpdate s.gameTime (report s)) s
    { s with nextUpdate := s.nextUpdate + s.params.updateUs }
  else s

/-- The slot a crossing's car id names: ids 1..6 (R84, R217). -/
def crossingSlot (id : BitVec 3) : Option Slot :=
  if h : 1 ≤ id.toNat ∧ id.toNat ≤ 6 then some ⟨id.toNat - 1, by omega⟩ else none

/-- `crossing_step(c, p)`: only when `lap_timer` differs (R216). -/
def crossingStep (c p : InFrame) (s : State) : State :=
  if lapTimer s.params c = lapTimer s.params p then s
  else
    let now := ticksToUs s.params (lapTimer s.params c)
    let s := if gameTimeRuns s then { s with gameTime := now } else s
    let s :=
      match crossingSlot (carIn c) with
      | some k => crossing k now s
      | none => s
    updateCheck now s

/-! Step 5: buttons. -/

/-- The buttons, highest priority first (R102, R224). -/
def buttonPriority : List Button := [.start, .right, .up, .enter, .left, .down]

/-- `button_step(c, p)`: on any change of the byte, the highest-priority button pressed in `c` (R224, D32). -/
def buttonStep (c p : InFrame) (s : State) : State :=
  if buttonsIn c = buttonsIn p then s
  else
    match buttonPriority.find? (fun b => pressedIn s.params c (buttonCode b)) with
    | some b => enqueue (.button b) s
    | none => s

/-- `on_frame(c, p)`: in BINDING step 1 alone, otherwise steps 2 to 5 (R210). -/
def onFrame (c p : InFrame) (s : State) : State :=
  if s.gameState = .binding then bindingStep s
  else buttonStep c p (crossingStep c p (driveStep c p (connectivityStep c s)))

end Sys2Proof.Machine
end

