-- ==== Sys2Proof/Machine/GraceTimer.lean ====
section
/-! DEFINITION. The grace-delay timer's expiry (spec/43_race_frame_path.md R227). -/

namespace Sys2Proof.Machine

/-- The finish event: STOPPED, then the final ranking, reported after the move (R227, D50). -/
def finishRace (s : State) : State :=
  let s := rank (setState .stopped s)
  enqueue (.gameFinished s.gameTime (report s)) s

/-- The finish timer is pending and due (R227). -/
def finishDue (s : State) : Bool := s.finishPending && decide (s.clock ≥ s.finishDeadline)

/-- `TIMER_TICK` (R227): at the expiry the counts are compared again (D22). -/
def execTimerTick (s : State) : Result :=
  .next
    (if finishDue s then
      let s := { s with finishPending := false }
      if allFinished s then finishRace s else s
    else s)

end Sys2Proof.Machine
end

