-- ==== Sys2Proof/Machine/LinkCycle.lean ====
section
/-! DEFINITION. The Link Cycle (spec/41_link_cycle.md): receiving, accepting and discarding a frame, writing one, I/O
errors; the meanings of `RX_BYTE`, `TX_READY` and `IO_ERROR`. -/

namespace Sys2Proof.Machine

/-- `connect_check()`: the first good frame after power-on or reconnect (R145). -/
def connectCheck (s : State) : State :=
  if s.linkConnected then s
  else
    let s := { s with linkConnected := true }
    requestLedReset (resetRaceData (log .connected s))

/-- `accept_frame(f, t)`; `on_frame` sees the previous accepted frame, the swap comes after it (R144). -/
def acceptFrame (f : InFrame) (s : State) : State :=
  let s := { s with lastUpdate := s.clock }
  let s := connectCheck s
  let s := onFrame f s.prevFrame s
  { s with prevFrame := f }

/-- `complete_frame()`; a frame whose checksum fails is discarded in silence (R143, R146). -/
def completeFrame (s : State) : State :=
  let s := if frameOk s.params s.rxBuf then acceptFrame s.rxBuf s else s
  enterWrite { s with rxCount := 0 }

/-- `rx_buf[rx_count] <- b`, `rx_count <- rx_count + 1` in its 4 bits (R141; notes/assumptions/6.md). -/
def storeRx (b : Byte) (s : State) : State :=
  { s with rxBuf := s.rxBuf.setIfInBounds s.rxCount.toNat b, rxCount := s.rxCount + 1 }

/-- `RX_BYTE b` in READ (R141). -/
def receiveByte (b : Byte) (s : State) : State :=
  let s := storeRx b s
  if s.rxCount = 15 then completeFrame s else s

/-- `RX_BYTE b` (R141); dropped outside READ (R142). -/
def execRxByte (b : Byte) (s : State) : Result :=
  .next (if s.linkState = .read then receiveByte b s else s)

/-- `write_complete()` (R152). -/
def writeComplete (s : State) : State := { s with txIdx := 0, rxCount := 0, linkState := .read }

/-- The next byte of `tx_buf` to the transmitter; the ninth completes the write (R151). -/
def transmitByte (s : State) : State :=
  if h : s.txIdx.toNat < 9 then
    let s := emit s.txBuf[s.txIdx.toNat] s
    let s := { s with txIdx := s.txIdx + 1 }
    if s.txIdx = 9 then writeComplete s else s
  else s

/-- `TX_READY` (R151): nothing outside WRITE. -/
def execTxReady (s : State) : Result :=
  .next (if s.linkState = .write then transmitByte s else s)

/-- `IO_ERROR`, in every link state (R153). -/
def execIoError (s : State) : Result :=
  .next (log .ioFailure { s with linkState := .halted, rxCount := 0, txIdx := 0 })

/-- A reserved event word: the sticky fault bit and nothing else (R100, R154). -/
def illegalEvent (s : State) : State := setIllegalEvent s

end Sys2Proof.Machine
end

