-- ==== Sys2Proof/Machine/RaceCommands.lean ====
section
/-! DEFINITION. The meanings of the twelve host commands (spec/42_race_commands.md R176 to R187). Every validation comes
before the first write (R190). A command of a slot is written over `withCar`, which rejects a car id of 6 or above. -/

namespace Sys2Proof.Machine

/-- Runs `f` on the slot the operand names, or rejects the command (R190, R95). -/
def withCar (car : BitVec 4) (s : State) (f : Slot → State) : State :=
  match carOperand car with
  | some i => f i
  | none => reject s

/-- `respond(OK, selected value)`, or the rejection of a selector that names none (R185, R186). -/
def respondSelected (value : Option (BitVec 32)) (s : State) : State :=
  match value with
  | some r => respond .ok r s
  | none => reject s

/-- `STOP` (R176): `cut_power` is the command's own side effect, on a change or not (R171). -/
def execStop (s : State) : Result := .next (respond .ok 0 (cutPower (setState .stopped s)))

/-- `INIT(LAPS, MASK)`: "deactivate all, activate listed car_ids" and the count of R177. -/
def activate (mask : BitVec 8) (s : State) : State :=
  { s with
    cars := Vector.ofFn fun i => { s.cars[i] with active := mask.getLsbD i.val }
    activeCarCount := maskPopcount mask }

/-- `INIT laps, mask` (R177): an empty list, or a list with id 6 or 7, is rejected. -/
def execInit (laps : BitVec 16) (mask : BitVec 8) (s : State) : Result :=
  .next
    (if mask.extractLsb' 6 2 ≠ 0 ∨ mask.extractLsb' 0 6 = 0 then reject s
    else
      let s := resetRaceData (activate mask s)
      let s := { s with targetLaps := laps.zeroExtend 32 }
      respond .ok 0 (setState .countdown s))

/-- `START` (R178): accepted with no effect outside COUNTDOWN (D26). -/
def execStart (s : State) : Result :=
  .next (respond .ok 0 (if s.gameState = .countdown then setState .starting s else s))

/-- `BIND car`, via STOPPED (R179). -/
def execBind (car : BitVec 4) (s : State) : Result :=
  .next
    (withCar car s fun i =>
      let s := setState .stopped s
      let s := { s with bindStart := s.clock, bindTarget := i }
      respond .ok 0 (setState .binding s))

/-- `TRAIN` (R180): the race-data reset is the command's own side effect, on a change or not (R171). -/
def execTrain (s : State) : Result := .next (respond .ok 0 (resetRaceData (setState .training s)))

/-- `SET_POWER_RATE car, pct` (R181): `PCT` 0 and above `RATE_MAX` rejected; the drive byte is not rescaled. -/
def execSetPowerRate (car : BitVec 4) (pct : BitVec 8) (s : State) : Result :=
  .next
    (withCar car s fun i =>
      if pct < s.params.rateMin ∨ pct > s.params.rateMax then reject s
      else respond .ok 0 (updateCar i (fun c => { c with powerRate := pct.setWidth 7 }) s))

/-- `SET_POWER car, pwr` (R182). -/
def execSetPower (car : BitVec 4) (pwr : BitVec 8) (s : State) : Result :=
  .next
    (withCar car s fun i =>
      if pwr > s.params.powerMax then reject s else respond .ok 0 (setPower i pwr s))

/-- `SET_BRAKE car, v` (R183). -/
def execSetBrake (car : BitVec 4) (v : BitVec 1) (s : State) : Result :=
  .next (withCar car s fun i => respond .ok 0 (setBrake i (v == 1) s))

/-- `SET_LANE_CHANGE car, v` (R184). -/
def execSetLaneChange (car : BitVec 4) (v : BitVec 1) (s : State) : Result :=
  .next (withCar car s fun i => respond .ok 0 (setLaneChange i (v == 1) s))

/-- `GET_GAME_STATE sel` (R185). -/
def execGetGameState (sel : BitVec 8) (s : State) : Result :=
  .next (respondSelected (gameStateSelector s sel) s)

/-- `GET_LAST_UPDATE sel` (R186). -/
def execGetLastUpdate (sel : BitVec 8) (s : State) : Result :=
  .next (respondSelected (lastUpdateSelector s sel) s)

/-- `LED_RESET` (R187). -/
def execLedReset (s : State) : Result := .next (respond .ok 0 (requestLedReset s))

/-- A reserved command word: rejected like an out-of-range argument (R94, R188). -/
def reservedCommand (s : State) : State := reject s

end Sys2Proof.Machine
end

