-- ==== Sys2Proof/Machine/Watchdog.lean ====
section
/-! DEFINITION. The Watchdog and reconnect (spec/44_watchdog.md). -/

namespace Sys2Proof.Machine

/-- `reconnect(t)`: one step, cursors and link state together (R251, R71). -/
def reconnect (s : State) : State :=
  let s := log .disconnect s
  let s := { s with linkConnected := false }
  let s := log .reopen s
  enterWrite { s with rxCount := 0, txIdx := 0, lastUpdate := s.clock }

/-- The watchdog's test: the cycle is HALTED, or the gap is strictly above `SILENCE_US`, connected or not (R250, C7). -/
def reconnectDue (s : State) : Bool :=
  decide (s.linkState = .halted) || decide (s.clock - s.lastUpdate > s.params.silenceUs)

/-- `WATCHDOG_TICK` (R250). -/
def execWatchdogTick (s : State) : Result := .next (if reconnectDue s then reconnect s else s)

end Sys2Proof.Machine
end

