-- ==== Sys2Proof/Machine/Dispatch.lean ====
section
/-! DEFINITION. The meaning of every instruction, one arm per constructor. -/

namespace Sys2Proof.Machine

def exec (i : Instr) (s : State) : Host.Outcome State Fault Refusal :=
  match i with
  | .stop => Sys2Proof.Machine.execStop s
  | .init laps mask => Sys2Proof.Machine.execInit laps mask s
  | .start => Sys2Proof.Machine.execStart s
  | .bind car => Sys2Proof.Machine.execBind car s
  | .train => Sys2Proof.Machine.execTrain s
  | .setPowerRate car pct => Sys2Proof.Machine.execSetPowerRate car pct s
  | .setPower car pwr => Sys2Proof.Machine.execSetPower car pwr s
  | .setBrake car v => Sys2Proof.Machine.execSetBrake car v s
  | .setLaneChange car v => Sys2Proof.Machine.execSetLaneChange car v s
  | .getGameState sel => Sys2Proof.Machine.execGetGameState sel s
  | .getLastUpdate sel => Sys2Proof.Machine.execGetLastUpdate sel s
  | .ledReset => Sys2Proof.Machine.execLedReset s
  | .rxByte data => Sys2Proof.Machine.execRxByte data s
  | .txReady => Sys2Proof.Machine.execTxReady s
  | .ioError => Sys2Proof.Machine.execIoError s
  | .watchdogTick => Sys2Proof.Machine.execWatchdogTick s
  | .timerTick => Sys2Proof.Machine.execTimerTick s

end Sys2Proof.Machine
end

