-- ==== Sys2Proof/Machine/Step.lean ====
section
/-! DEFINITION. One step: the head of the environment's inputs is presented and runs to completion (spec/00_scope.md R5,
spec/60_exceptions.md R278). -/

namespace Sys2Proof.Machine

/-- A word runs in the state in which it was presented: the instruction it decodes to, or the rejection of a reserved
command (R188), or the fault bit of a reserved event (R154). -/
def runWord (w : PortWord) (s : State) : Result :=
  match decode w with
  | .ok i => exec i s
  | .error _ =>
    match w with
    | .command _ => .next (reservedCommand s)
    | .event _ => .next (illegalEvent s)

/-- One step. With nothing presented "the block simply stays where it is" (R302; notes/assumptions/2.md). -/
def step (s : State) : Host.Outcome State Fault Refusal :=
  match s.inputs with
  | [] => .next s
  | inp :: rest => runWord inp.word (present inp rest s)

/-- `s` with a word of the opcode table as the next input, at the clock value `s` has: what the environment presents
(notes/assumptions/1.md). -/
def State.withFetchWord (s : State) (nbits w : Nat) : State :=
  { s with inputs := { t := s.clock, word := tableWord nbits w } :: s.inputs }

end Sys2Proof.Machine
end

