-- ==== Sys2Proof/WellFormed.lean ====
section
/-! DEFINITION. Which operands are valid (spec/30_encoding.md R95, R96): the ones the instruction's rule does not reject
(spec/42_race_commands.md R190). Every term of Instr is the reading of some word; an ill-formed one is a word the encoding
defines and the command rejects as InvalidArgument. -/

namespace Sys2Proof

/-- `CAR` "is valid only below `NCARS` = 6" (R95). -/
def carValid (car : BitVec 4) : Bool := decide (car.toNat < 6)

/-- The car list of `INIT`: not empty, and no id 6 or 7 (R95, R177). -/
def maskValid (mask : BitVec 8) : Bool := mask.extractLsb' 6 2 == 0#2 && mask.extractLsb' 0 6 != 0#6

/-- `PCT` is valid in `RATE_MIN..RATE_MAX` (R95, R181). -/
def pctValid (p : Params) (pct : BitVec 8) : Bool := decide (p.rateMin.toNat ≤ pct.toNat) && decide (pct.toNat ≤ p.rateMax.toNat)

/-- `PWR` is valid in `0..POWER_MAX` (R95, R182). -/
def pwrValid (p : Params) (pwr : BitVec 8) : Bool := decide (pwr.toNat ≤ p.powerMax.toNat)

namespace Instr

/-- The operands are ones R95 and R96 call valid. -/
def wellFormed (p : Params) : Instr → Bool
  | .stop => true
  | .init _ mask => maskValid mask
  | .start => true
  | .bind car => carValid car
  | .train => true
  | .setPowerRate car pct => carValid car && pctValid p pct
  | .setPower car pwr => carValid car && pwrValid p pwr
  | .setBrake car _ => carValid car
  | .setLaneChange car _ => carValid car
  | .getGameState sel => decide (sel.toNat ≤ 6)
  | .getLastUpdate sel => decide (sel.toNat ≤ 1)
  | .ledReset => true
  | .rxByte _ => true
  | .txReady => true
  | .ioError => true
  | .watchdogTick => true
  | .timerTick => true

/-- The instruction is a host command (R93), not an input event (R99). -/
def isCommand : Instr → Bool
  | .stop => true
  | .init _ _ => true
  | .start => true
  | .bind _ => true
  | .train => true
  | .setPowerRate _ _ => true
  | .setPower _ _ => true
  | .setBrake _ _ => true
  | .setLaneChange _ _ => true
  | .getGameState _ => true
  | .getLastUpdate _ => true
  | .ledReset => true
  | .rxByte _ => false
  | .txReady => false
  | .ioError => false
  | .watchdogTick => false
  | .timerTick => false

end Instr

end Sys2Proof
end

