-- ==== Sys2Proof/Safety.lean ====
section
/-! DEFINITION. What counts as a good run, in the terms the statements use: the failed run of R51, the error classes of
R270, the environment's duties, the events a step raises, the transitions R140 and R172 allow, and the invariant every
step keeps. -/

namespace Sys2Proof.Machine

/-! Failed runs and error classes. -/

/-- "A model treats a state with a fault bit set as a failed run" (R51). -/
def State.failed (s : State) : Bool := s.fault.evqOverflow || s.fault.illegalEvent

/-- The error classes of R270. -/
inductive ErrorClass where
  | frameCorrupt
  | ioFailure
  | invalidArgument
  | linkSilence
  | evqOverflow
  | illegalEvent
  deriving DecidableEq, Repr

/-- The codes of R270 (D39). -/
def errorCode : ErrorClass → Nat
  | .frameCorrupt => 1
  | .ioFailure => 2
  | .invalidArgument => 3
  | .linkSilence => 4
  | .evqOverflow => 5
  | .illegalEvent => 6

/-- The inbound buffer with `b` as its fifteenth byte. -/
def completedFrame (b : Byte) (s : State) : InFrame := s.rxBuf.set 14 b

/-- The error class an instruction meets in a state, where it meets one of the source's four (R271 to R274). -/
def errorOf (i : Instr) (s : State) : Option ErrorClass :=
  match i with
  | .rxByte b =>
    if s.linkState = .read ∧ s.rxCount = 14 ∧ frameOk s.params (completedFrame b s) = false then some .frameCorrupt
    else none
  | .ioError => some .ioFailure
  | .watchdogTick => if s.clock - s.lastUpdate > s.params.silenceUs then some .linkSilence else none
  | .txReady => none
  | .timerTick => none
  | .stop => none
  | .init _ mask => if maskValid mask then none else some .invalidArgument
  | .start => none
  | .bind car => if carValid car then none else some .invalidArgument
  | .train => none
  | .setPowerRate car pct => if carValid car && pctValid s.params pct then none else some .invalidArgument
  | .setPower car pwr => if carValid car && pwrValid s.params pwr then none else some .invalidArgument
  | .setBrake car _ => if carValid car then none else some .invalidArgument
  | .setLaneChange car _ => if carValid car then none else some .invalidArgument
  | .getGameState sel => if sel.toNat ≤ 6 then none else some .invalidArgument
  | .getLastUpdate sel => if sel.toNat ≤ 1 then none else some .invalidArgument
  | .ledReset => none

/-- The environment's duty on the clock (R52): the values it presents do not decrease. -/
def clockMonotone (s : State) : Bool := decide ((s.clock :: s.inputs.map Input.t).Pairwise (· ≤ ·))

/-! The events a step raises. -/

/-- One record offered to a queue of the given depth: appended, or dropped with the overflow bit set (R228). -/
def offer (depth : Option Nat) (q : List Event × Bool) (e : Event) : List Event × Bool :=
  match depth with
  | none => (q.1 ++ [e], q.2)
  | some d => if d ≤ q.1.length then (q.1, true) else (q.1 ++ [e], q.2)

/-- `t` differs from `s`, in `event_q` and the fault bits, by exactly the records `evs`, offered in order. -/
def Raises (s t : State) (evs : List Event) : Prop :=
  (t.eventQ, t.fault.evqOverflow) = evs.foldl (offer s.params.evqDepth) (s.eventQ, s.fault.evqOverflow) ∧
    t.fault.illegalEvent = s.fault.illegalEvent

/-- The records a change of state to `g` raises (R170). -/
def changeTo (s : State) (g : GameState) : List Event := if s.gameState = g then [] else [.stateChange g]

/-! The car records after a race-data reset, and the drive bytes after a power cut. -/

/-- A car record with its laps, best lap and finished flag cleared (R173). -/
def clearedCar (c : CarState) : CarState := { c with laps := 0, bestLapTime := 0, finished := false }

/-- `reset_race_data` took `s` to a state with the race data of `t` (R173). -/
def RaceDataReset (s t : State) : Prop :=
  (∀ i : Slot, t.cars[i] = clearedCar s.cars[i]) ∧ t.finishedCarCount = 0 ∧ t.positions = identityOrder

/-- Power 0 and lane change off, the brake as it was (R174). -/
def PowerCut (s t : State) : Prop :=
  ∀ i : Slot, drivePower t.drive[i] = 0 ∧ driveLane t.drive[i] = false ∧ driveBrake t.drive[i] = driveBrake s.drive[i]

/-- `cars` is ranked in `pos`: a permutation of the six slots, each before the ones after it (R225, R226). -/
def Ranked (cars : PerSlot CarState) (pos : PerSlot Slot) : Prop :=
  pos.toList.Perm allSlots ∧ pos.toList.Pairwise fun a b => before cars a b = true

/-! Transitions. -/

/-- The rows of the transition table R172: `i` may take `g` to `g'`. -/
def gameTransition (i : Instr) (g g' : GameState) : Bool :=
  match i with
  | .stop => decide (g' = .stopped)
  | .init _ _ => decide (g' = .countdown)
  | .start => decide (g = .countdown ∧ g' = .starting)
  | .bind _ => decide (g' = .binding)
  | .train => decide (g' = .training)
  | .rxByte _ =>
    decide (g = .starting ∧ g' = .race) || decide (g = .binding ∧ g' = .training) ||
      decide ((g = .starting ∨ g = .countdown) ∧ g' = .stopped)
  | .watchdogTick => decide (g = .starting ∧ g' = .race)
  | .timerTick => decide (g' = .stopped)
  | .setPowerRate _ _ => false
  | .setPower _ _ => false
  | .setBrake _ _ => false
  | .setLaneChange _ _ => false
  | .getGameState _ => false
  | .getLastUpdate _ => false
  | .ledReset => false
  | .txReady => false
  | .ioError => false

/-- The transitions of R140: `i` may take the link of `s` to `l`. -/
def linkTransition (i : Instr) (s : State) (l : LinkState) : Bool :=
  match i with
  | .rxByte _ => decide (s.linkState = .read ∧ s.rxCount = 14 ∧ l = .write)
  | .txReady => decide (s.linkState = .write ∧ s.txIdx = 8 ∧ l = .read)
  | .ioError => decide (l = .halted)
  | .watchdogTick => decide (l = .write)
  | .timerTick => false
  | .stop => false
  | .init _ _ => false
  | .start => false
  | .bind _ => false
  | .train => false
  | .setPowerRate _ _ => false
  | .setPower _ _ => false
  | .setBrake _ _ => false
  | .setLaneChange _ _ => false
  | .getGameState _ => false
  | .getLastUpdate _ => false
  | .ledReset => false

/-! The invariant. -/

/-- What holds at every step boundary of every run from power-on: the invariants the rules state (R26, R32, R33, R35, R39,
R51) and the ones that follow from them. -/
structure State.Inv (s : State) : Prop where
  /-- The parameters are ones the spec allows (R112 and the widths of R7). -/
  params_wf : s.params.wf = true
  /-- `active_car_count = popcount(active[0..5])` (R32). -/
  active_count : s.activeCarCount.toNat = countSlots fun i => s.cars[i].active
  /-- `finished_car_count` is the number of finished slots (R33). -/
  finished_count : s.finishedCarCount.toNat = countSlots fun i => s.cars[i].finished
  /-- Only an active car is finished (R217, R220; `INIT` clears both). -/
  finished_active : ∀ i : Slot, s.cars[i].finished = true → s.cars[i].active = true
  /-- `positions` is a permutation of the six car indices (R35). -/
  positions_perm : s.positions.toList.Perm allSlots
  /-- `power_rate` is in 1..`RATE_MAX` (R39). -/
  power_rate : ∀ i : Slot, 1 ≤ s.cars[i].powerRate.toNat ∧ s.cars[i].powerRate.toNat ≤ s.params.rateMax.toNat
  /-- `op_mode` holds `OP_MODE_NORMAL` at all times (R26). -/
  op_mode : s.opMode = s.params.opModeNormal
  /-- `rx_count` is at most 14 at a step boundary, and 0 outside READ (R141, R143, R152, R153, R251). -/
  rx_cursor : s.rxCount.toNat ≤ 14 ∧ (s.linkState ≠ .read → s.rxCount = 0)
  /-- `tx_idx` is at most 8 at a step boundary, and 0 outside WRITE (R147, R151 to R153). -/
  tx_cursor : s.txIdx.toNat ≤ 8 ∧ (s.linkState ≠ .write → s.txIdx = 0)
  /-- `tx_buf` begins with `op_mode` and carries its checksum (R113, R147). -/
  tx_frame : s.txBuf[0] = s.opMode ∧ crc8 s.params (s.txBuf.toList.take 8) = s.txBuf[8]
  /-- `prev_frame` passed its checksum, or no frame has been accepted yet (R22, R144). -/
  prev_frame : s.prevFrame = Vector.replicate 15 0#8 ∨ frameOk s.params s.prevFrame = true
  /-- STARTING always has the LED reset pending that will promote it (R149, R170, R306). -/
  starting_pending : s.gameState = .starting → s.ledPhase ≠ .idle
  /-- No car has counted a lap before the race (R170, R173). -/
  grid_laps : s.gameState = .countdown ∨ s.gameState = .starting → ∀ i : Slot, s.cars[i].laps = 0
  /-- In RACE a lap count stays below the target once it has begun (R220). -/
  race_laps : s.gameState = .race → ∀ i : Slot, s.cars[i].laps = 0 ∨ s.cars[i].laps < s.targetLaps
  /-- A bounded queue never holds more than its depth (R228). -/
  queue_bound : ∀ d : Nat, s.params.evqDepth = some d → s.eventQ.length ≤ d
  /-- `EVQ_OVERFLOW` exists only where the queue is bounded (R51, R275). -/
  overflow_bounded : s.params.evqDepth = none → s.fault.evqOverflow = false

end Sys2Proof.Machine
end

