-- ==== Sys2Proof/Certificates/Slice0/Obligations.lean ====
section
/-! DEFINITION. The statements for the provers. Each names the rule of spec/ it formalises; a next state is pinned field by
field, and the closing equation `t = { s with … }` is its frame: every field it does not name is unchanged. `Rests on D<n>`:
a decision the spec marks as its own (spec/92_eei_decisions.md), whose clause the statement holds as the spec's text. -/

open Sys2Proof Sys2Proof.Machine

/-! Encoding and decoding (R92 to R100). -/

/-- Every instruction, with every operand value, is what its own word decodes to (R93, R95, R99). Rests on D7, D8. -/
def Obligations.DecodeOfEncodeIsTheInstruction : Prop :=
  ∀ i : Instr, decode (encode i) = .ok i

/-- A word names at most one instruction, and an instruction has no other word: no bit of an accepted word is dropped
(R93, R94, R99, R100). Rests on D7, D8. -/
def Obligations.EncodeOfDecodeIsTheWord : Prop :=
  ∀ (w : PortWord) (i : Instr), decode w = .ok i → encode i = w

/-- The words of spec/95_test_vectors.md §2.3: each of the eighteen decodes to the instruction it is listed for, and the ones
of its reserved row, 0x000, 0x201 and 0x600 to 0xFFF, to none. Rests on D7, D8 (notes/assumptions/13.md). -/
def Obligations.ListedWordsDecode : Prop :=
  decode (.command 0x10000000) = .ok .stop ∧ decode (.command 0x20000303) = .ok (.init 3 0x03) ∧
  decode (.command 0x20000304) = .ok (.init 3 0x04) ∧ decode (.command 0x30000000) = .ok .start ∧
  decode (.command 0x42000000) = .ok (.bind 2) ∧ decode (.command 0x50000000) = .ok .train ∧
  decode (.command 0x60000032) = .ok (.setPowerRate 0 50) ∧ decode (.command 0x7000003F) = .ok (.setPower 0 63) ∧
  decode (.command 0x84000001) = .ok (.setBrake 4 1) ∧ decode (.command 0x93000001) = .ok (.setLaneChange 3 1) ∧
  decode (.command 0xA0000006) = .ok (.getGameState 6) ∧ decode (.command 0xB0000000) = .ok (.getLastUpdate 0) ∧
  decode (.command 0xC0000000) = .ok .ledReset ∧ decode (.event 0x15A) = .ok (.rxByte 0x5A) ∧
  decode (.event 0x200) = .ok .txReady ∧ decode (.event 0x300) = .ok .ioError ∧
  decode (.event 0x400) = .ok .watchdogTick ∧ decode (.event 0x500) = .ok .timerTick ∧
  (∀ e : BitVec 12, e = 0x000 ∨ e = 0x201 ∨ 0x600 ≤ e → ∀ i : Instr, decode (.event e) ≠ .ok i)

/-- The encodings R94 and R100 reserve: a command word names an operation exactly when it matches its row of the opcode map
(the row's OP, and every field shown as `0` zero), an event word exactly when it is an `RX_BYTE` or one of the other four
kinds with `DATA` zero. Rests on D7, D8. -/
def Obligations.WordNamesAnInstructionExactlyWhenNotReserved : Prop :=
  (∀ w : BitVec 32,
    (∃ i, decode (.command w) = .ok i) ↔
      (w &&& 0xFFFFFFFF#32 = 0x10000000#32 ∨ w &&& 0xFF000000#32 = 0x20000000#32 ∨ w &&& 0xFFFFFFFF#32 = 0x30000000#32 ∨
       w &&& 0xF0FFFFFF#32 = 0x40000000#32 ∨ w &&& 0xFFFFFFFF#32 = 0x50000000#32 ∨ w &&& 0xF0FFFF00#32 = 0x60000000#32 ∨
       w &&& 0xF0FFFF00#32 = 0x70000000#32 ∨ w &&& 0xF0FFFFFE#32 = 0x80000000#32 ∨ w &&& 0xF0FFFFFE#32 = 0x90000000#32 ∨
       w &&& 0xFFFFFF00#32 = 0xA0000000#32 ∨ w &&& 0xFFFFFF00#32 = 0xB0000000#32 ∨ w &&& 0xFFFFFFFF#32 = 0xC0000000#32)) ∧
  (∀ e : BitVec 12,
    (∃ i, decode (.event e) = .ok i) ↔
      (e.extractLsb' 8 4 = 1#4 ∨ e = 0x200#12 ∨ e = 0x300#12 ∨ e = 0x400#12 ∨ e = 0x500#12))

/-! The step. -/

/-- A step runs the instruction its input's word decodes to, in the state in which the input was presented: `t` is its
clock value, the Event Sink has removed what it removed (notes/assumptions/1.md, 5.md), the later inputs remain. -/
def Obligations.StepRunsTheDecodedInstruction : Prop :=
  ∀ (s : State) (inp : Input) (rest : List Input) (i : Instr),
    s.inputs = inp :: rest → decode inp.word = .ok i →
      step s = exec i { s with inputs := rest, clock := inp.t, eventQ := s.eventQ.drop inp.sinkTakes }

/-- A reserved command word is rejected, `cmd_status` and `cmd_result` and no other state (R94, R188); a reserved event word
sets the sticky bit `ILLEGAL_EVENT` and changes nothing else of the block (R100, R154). Rests on D7, D8. The inputs that
remain, the clock value and what the Event Sink removed are as in StepRunsTheDecodedInstruction, the model's choices of
notes/assumptions/1.md and 5.md. -/
def Obligations.ReservedWordsAreHandledInPlace : Prop :=
  (∀ (s : State) (inp : Input) (rest : List Input) (w : BitVec 32),
    s.inputs = inp :: rest → inp.word = .command w → (∀ i, decode (.command w) ≠ .ok i) →
      step s = .next { s with inputs := rest, clock := inp.t, eventQ := s.eventQ.drop inp.sinkTakes,
                              cmdStatus := .invalidArgument, cmdResult := 0 }) ∧
  (∀ (s : State) (inp : Input) (rest : List Input) (e : BitVec 12),
    s.inputs = inp :: rest → inp.word = .event e → (∀ i, decode (.event e) ≠ .ok i) →
      step s = .next { s with inputs := rest, clock := inp.t, eventQ := s.eventQ.drop inp.sinkTakes,
                              fault := { s.fault with illegalEvent := true } })

/-- "The block never halts: no input ends its operation" (R315). With nothing presented the model stays where it is: the
model's reading, notes/assumptions/2.md. Rests on the spec's own derivation in R315. -/
def Obligations.NoInputEndsTheOperation : Prop :=
  (∀ s : State, ∃ t, step s = .next t) ∧ (∀ (i : Instr) (s : State), ∃ t, exec i s = .next t) ∧
    ∀ s : State, s.inputs = [] → step s = .next s

/-! Reset. -/

/-- Power-on reset leaves the table of R57, whatever the parameters and `t0`; "the last act of reset is enter_write()":
running it again changes nothing, and with the values R7 takes `tx_buf` is FF x7, 00, 24 (R300, R301).
Rests on D17, D18, D25, D31, D37, D49. -/
def Obligations.PowerOnLeavesTheResetTable : Prop :=
  (∀ (p : Params) (t0 : Time),
    let s := State.powerOn p t0
    s.linkState = .write ∧ s.rxCount = 0 ∧ (∀ k : Fin 15, s.rxBuf[k] = 0x00#8 ∧ s.prevFrame[k] = 0x00#8) ∧ s.txIdx = 0 ∧
    s.lastUpdate = t0 ∧ s.linkConnected = false ∧ s.opMode = p.opModeNormal ∧ s.ledStatus = 0x00#8 ∧ s.ledPhase = .idle ∧
    s.gameState = .stopped ∧ s.targetLaps = p.targetLapsReset ∧ s.activeCarCount = 0 ∧ s.finishedCarCount = 0 ∧
    s.gameTime = 0 ∧ s.positions = #v[0, 1, 2, 3, 4, 5] ∧ s.nextUpdate = 0 ∧
    (∀ i : Slot, s.drive[i] = 0xFF#8 ∧ s.conn[i] = false ∧
      s.cars[i] = { active := false, finished := false, powerRate := p.powerRateReset, startTime := 0,
                    lastCrossingTime := 0, bestLapTime := 0, laps := 0 }) ∧
    s.bindStart = 0 ∧ s.bindTarget = 0 ∧ s.finishPending = false ∧ s.finishDeadline = 0 ∧ s.cmdStatus = .ok ∧
    s.cmdResult = 0 ∧ s.eventQ = [] ∧ s.diagLog = [] ∧ s.txOut = [] ∧ s.failed = false ∧ enterWrite s = s) ∧
  State.reset.txBuf = #v[0xFF, 0xFF, 0xFF, 0xFF, 0xFF, 0xFF, 0xFF, 0x00, 0x24]

/-! The frame codec. -/

/-- "flipping any single bit of a valid encoded frame makes decode report FrameCorrupt": every polynomial but zero, every
initial value, reflection and final XOR, every byte and every bit (R112, R118).
Rests on the spec's own derivation in R112. -/
def Obligations.SingleBitErrorIsDetected : Prop :=
  ∀ (p : Params) (f : InFrame) (k : Fin 15) (j : Fin 8),
    p.crcPoly ≠ 0 → frameOk p f = true → frameOk p (f.set k (f[k] ^^^ (1#8 <<< j.val))) = false

/-- The round trip per direction: (a) the nine bytes of an outbound field tuple are its fields and its checksum; (b) a
14-byte body followed by its checksum is accepted, and `decode_in` returns every field of the body (R117).
Rests on the spec's own derivation in R117, and log 12 (notes/assumptions/12.md). -/
def Obligations.CodecRoundTripsPerDirection : Prop :=
  (∀ (p : Params) (op led : Byte) (d : PerSlot Byte),
    let b := encodeOut p op d led
    b[0] = op ∧ (∀ i : Slot, b[1 + i.val] = d[i]) ∧ b[7] = led ∧ crc8 p (b.toList.take 8) = b[8]) ∧
  (∀ (p : Params) (x : Vector Byte 14),
    let f : InFrame := x.push (crc8 p x.toList)
    frameOk p f = true ∧
    ∃ d, decodeIn p f = some d ∧
      (∀ i : Slot, d.conn[i] = (x[0].getLsbD p.connBit[i].val ^^ p.connActiveLow)) ∧ d.trackPower = x[0].getLsbD 7 ∧
      (∀ i : Slot, d.brake[i] = !(x[1 + i.val].getLsbD 7) ∧ d.lane[i] = !(x[1 + i.val].getLsbD 6) ∧
        ∀ j : Fin 6, d.power[i].getLsbD j.val = !(x[1 + i.val].getLsbD j.val)) ∧
      d.auxCurrent = x[7] ∧ d.car.toNat = x[8].toNat % 8 ∧
      (p.lapTimerBE = true →
        d.lapTimer.toNat = x[9].toNat * 2 ^ 24 + x[10].toNat * 2 ^ 16 + x[11].toNat * 2 ^ 8 + x[12].toNat) ∧
      ∀ b : Fin 6, d.pressed[b] = !(x[13].getLsbD p.btnBit[b].val))

/-- `ticks_to_us(n)` is the exact product divided, truncating, wherever the product fits 64 bits; with 32/5 it always does,
and the values R116 lists follow.
That the formula wins over 1/6.4 is C1 (notes/assumptions/13.md); the first clause takes in a zero
denominator, where both sides are 0: notes/assumptions/8.md. -/
def Obligations.TicksConvertExactlyTruncating : Prop :=
  (∀ (p : Params) (n : BitVec 32), n.toNat * p.tickUsNum.toNat < 2 ^ 64 →
    (ticksToUs p n).toNat = n.toNat * p.tickUsNum.toNat / p.tickUsDen.toNat) ∧
  (∀ (p : Params) (n : BitVec 32), p.tickUsNum = 32 → p.tickUsDen = 5 → (ticksToUs p n).toNat = n.toNat * 32 / 5) ∧
  ticksToUs Params.default 0 = 0 ∧ ticksToUs Params.default 1 = 6 ∧ ticksToUs Params.default 5 = 32 ∧
  ticksToUs Params.default 0xFFFFFFFF = 27487790688 ∧ ticksToUs Params.default 156250 = 1000000

/-! Procedures. -/

/-- `drive_modify(i, g)`: the asserted-high view of byte `i` becomes `g` of it; the other bytes and every other piece of
state are unchanged (R175). `cut_power()` takes power to 0 and lane change off on every slot and keeps the brake (R174).
Rests on D43. -/
def Obligations.DriveBytesAreUpdatedActiveLow : Prop :=
  (∀ (s : State) (i : Slot) (g : Byte → Byte),
    let t := driveModify i g s
    ~~~t.drive[i] = g (~~~s.drive[i]) ∧ (∀ j : Slot, j ≠ i → t.drive[j] = s.drive[j]) ∧ t = { s with drive := t.drive }) ∧
  (∀ s : State, PowerCut s (cutPower s) ∧ cutPower s = { s with drive := (cutPower s).drive })

/-- `set_state(s)`: nothing on no change; else the event, the LED reset for every target but RACE, the race-data reset on
entering COUNTDOWN, STARTING, TRAINING or BINDING, and the power cut on entering STOPPED (R170).
Rests on C3 for
RACE, and on D35 and D43 for what the two entry effects keep (notes/assumptions/13.md). -/
def Obligations.SetStateHasTheEntryEffects : Prop :=
  ∀ (s : State) (g : GameState),
    let t := setState g s
    (s.gameState = g → t = s) ∧
    (s.gameState ≠ g →
      t.gameState = g ∧ Raises s t [.stateChange g] ∧ t.ledPhase = (if g = .race then s.ledPhase else .cycle1) ∧
      (let r := if g = .countdown ∨ g = .starting ∨ g = .training ∨ g = .binding then resetRaceData s else s
       t.cars = r.cars ∧ t.finishedCarCount = r.finishedCarCount ∧ t.positions = r.positions) ∧
      t.drive = (if g = .stopped then cutPower s else s).drive ∧
      t = { s with gameState := g, eventQ := t.eventQ, fault := t.fault, ledPhase := t.ledPhase, cars := t.cars,
                   finishedCarCount := t.finishedCarCount, positions := t.positions, drive := t.drive })

/-- `enter_write()` with no LED reset pending: the frame is encoded from the current fields, the cursor and the link state
are set, nothing else is written (R147). Rests on D21. -/
def Obligations.EnterWriteEncodesTheCurrentFields : Prop :=
  ∀ s : State, s.ledPhase = .idle →
    ∃ b : OutFrame, enterWrite s = { s with txBuf := b, txIdx := 0, linkState := .write } ∧
      b[0] = s.opMode ∧ (∀ i : Slot, b[1 + i.val] = s.drive[i]) ∧ b[7] = s.ledStatus ∧
      crc8 s.params (b.toList.take 8) = b[8]

/-- LED cycle 1 in `enter_write`: green and red lit, every other LED bit as it was, the frame carries that byte, the next
WRITE cycle is cycle 2 (R147, R148). Rests on D21. -/
def Obligations.LedCycleOneLightsGreenAndRed : Prop :=
  ∀ s : State, s.params.wf = true → s.ledPhase = .cycle1 →
    let t := enterWrite s
    (∀ b : Fin 8, t.ledStatus.getLsbD b.val =
      if b = s.params.ledGreenBit ∨ b = s.params.ledRedBit then !s.params.ledActiveLow else s.ledStatus.getLsbD b.val) ∧
    t.txBuf = encodeOut s.params s.opMode s.drive t.ledStatus ∧
    t = { s with ledStatus := t.ledStatus, ledPhase := .cycle2, txBuf := t.txBuf, txIdx := 0, linkState := .write }

/-- LED cycle 2 in `enter_write`: red unlit, green lit, `next_update` cleared, STARTING alone promoted to RACE, no further
LED reset requested (R147, R149). Rests on D21. -/
def Obligations.LedCycleTwoPromotesStartingToRace : Prop :=
  ∀ s : State, s.params.wf = true → s.ledPhase = .cycle2 →
    let t := enterWrite s
    (∀ b : Fin 8, t.ledStatus.getLsbD b.val =
      if b = s.params.ledRedBit then s.params.ledActiveLow
      else if b = s.params.ledGreenBit then !s.params.ledActiveLow else s.ledStatus.getLsbD b.val) ∧
    t.gameState = (if s.gameState = .starting then .race else s.gameState) ∧
    Raises s t (if s.gameState = .starting then [.stateChange .race] else []) ∧
    t.txBuf = encodeOut s.params s.opMode s.drive t.ledStatus ∧
    t = { s with ledStatus := t.ledStatus, ledPhase := .idle, nextUpdate := 0, gameState := t.gameState,
                 eventQ := t.eventQ, fault := t.fault, txBuf := t.txBuf, txIdx := 0, linkState := .write }

/-- "The order is strict and total": for distinct slots exactly one ranks ahead, no slot ranks ahead of itself, and the
order is transitive; ranking again changes nothing (R225). -/
def Obligations.PositionOrderIsStrictAndTotal : Prop :=
  ∀ cars : PerSlot CarState,
    (∀ a b : Slot, a ≠ b → (before cars a b = true ↔ before cars b a = false)) ∧
    (∀ a : Slot, before cars a a = false) ∧
    (∀ a b c : Slot, before cars a b = true → before cars b c = true → before cars a c = true) ∧
    (∀ a b : Slot, before cars a b = true ↔
      (cars[b].laps < cars[a].laps ∨
       (cars[a].laps = cars[b].laps ∧ (cars[a].lastCrossingTime < cars[b].lastCrossingTime ∨
         (cars[a].lastCrossingTime = cars[b].lastCrossingTime ∧ a < b))))) ∧
    ∀ s : State, rank (rank s) = rank s

/-- `rank()` sorts all six indices by the order of R225, has one possible result, and writes `positions` alone; `report()`
filters it (R226). Rests on D34. -/
def Obligations.RankSortsAllSixSlots : Prop :=
  (∀ s : State, Ranked s.cars (rank s).positions ∧ rank s = { s with positions := (rank s).positions }) ∧
  (∀ (cars : PerSlot CarState) (x y : PerSlot Slot), Ranked cars x → Ranked cars y → x = y) ∧
  ∀ s : State, (∀ i : Slot, i ∈ report s ↔ (s.gameState = .training ∨ s.cars[i].active = true) ∧ i ∈ s.positions.toList) ∧
    (report s).Sublist s.positions.toList

/-! Host commands: each completes in every state, with its result and its frame. -/

/-- `STOP` (R176): STOPPED; power and lane change cut on every slot whether or not the state changed; the event and the LED
reset on a change only; a pending grace timer stays pending. Rests on D43, D44. -/
def Obligations.StopStopsAndCutsPower : Prop :=
  ∀ s : State, ∃ t, exec .stop s = .next t ∧
    t.gameState = .stopped ∧ PowerCut s t ∧ Raises s t (changeTo s .stopped) ∧
    t.ledPhase = (if s.gameState = .stopped then s.ledPhase else .cycle1) ∧
    t = { s with gameState := t.gameState, drive := t.drive, eventQ := t.eventQ, fault := t.fault, ledPhase := t.ledPhase,
                 cmdStatus := .ok, cmdResult := 0 }

/-- `INIT laps, mask` (R177): rejected on an empty list or an id 6 or 7; else the listed cars alone are active, counted,
race data reset, the target set, COUNTDOWN entered. Rests on D7, D28, D35. -/
def Obligations.InitSelectsCarsAndEntersCountdown : Prop :=
  ∀ (s : State) (laps : BitVec 16) (mask : BitVec 8), ∃ t, exec (.init laps mask) s = .next t ∧
    (mask.toNat = 0 ∨ 64 ≤ mask.toNat → t = { s with cmdStatus := .invalidArgument, cmdResult := 0 }) ∧
    (0 < mask.toNat ∧ mask.toNat < 64 →
      (∀ i : Slot, t.cars[i] = { clearedCar s.cars[i] with active := mask.getLsbD i.val }) ∧
      t.activeCarCount.toNat = (allSlots.filter fun i => mask.getLsbD i.val).length ∧
      Raises s t (changeTo s .countdown) ∧ t.ledPhase = (if s.gameState = .countdown then s.ledPhase else .cycle1) ∧
      t.targetLaps.toNat = laps.toNat ∧
      t = { s with cars := t.cars, activeCarCount := t.activeCarCount, finishedCarCount := 0, positions := identityOrder,
                   targetLaps := t.targetLaps, gameState := .countdown, eventQ := t.eventQ, fault := t.fault,
                   ledPhase := t.ledPhase, cmdStatus := .ok, cmdResult := 0 })

/-- `START` (R178): from COUNTDOWN to STARTING; accepted with no effect from any other state. Rests on D26. -/
def Obligations.StartEntersStartingFromCountdownOnly : Prop :=
  ∀ s : State, ∃ t, exec .start s = .next t ∧
    (s.gameState ≠ .countdown → t = { s with cmdStatus := .ok, cmdResult := 0 }) ∧
    (s.gameState = .countdown →
      RaceDataReset s t ∧ Raises s t [.stateChange .starting] ∧
      t = { s with gameState := .starting, ledPhase := .cycle1, cars := t.cars, finishedCarCount := t.finishedCarCount,
                   positions := t.positions, eventQ := t.eventQ, fault := t.fault, cmdStatus := .ok, cmdResult := 0 })

/-- `BIND car` (R179): a car id of 6 or above is rejected; else BINDING via STOPPED, from BINDING too, with the start time
and the target recorded. Rests on D9, D27. -/
def Obligations.BindEntersBindingViaStopped : Prop :=
  ∀ (s : State) (car : BitVec 4), ∃ t, exec (.bind car) s = .next t ∧
    (6 ≤ car.toNat → t = { s with cmdStatus := .invalidArgument, cmdResult := 0 }) ∧
    (car.toNat < 6 →
      RaceDataReset s t ∧ (if s.gameState = .stopped then t.drive = s.drive else PowerCut s t) ∧
      Raises s t (changeTo s .stopped ++ [.stateChange .binding]) ∧ t.bindTarget.val = car.toNat ∧
      t = { s with gameState := .binding, bindStart := s.clock, bindTarget := t.bindTarget, ledPhase := .cycle1,
                   cars := t.cars, finishedCarCount := t.finishedCarCount, positions := t.positions, drive := t.drive,
                   eventQ := t.eventQ, fault := t.fault, cmdStatus := .ok, cmdResult := 0 })

/-- `TRAIN` (R180): TRAINING, race data reset whether or not the state changed. Rests on D35, D44. -/
def Obligations.TrainEntersTrainingAndResetsRaceData : Prop :=
  ∀ s : State, ∃ t, exec .train s = .next t ∧
    RaceDataReset s t ∧ Raises s t (changeTo s .training) ∧
    t.ledPhase = (if s.gameState = .training then s.ledPhase else .cycle1) ∧
    t = { s with gameState := .training, ledPhase := t.ledPhase, cars := t.cars, finishedCarCount := t.finishedCarCount,
                 positions := t.positions, eventQ := t.eventQ, fault := t.fault, cmdStatus := .ok, cmdResult := 0 }

/-- `SET_POWER_RATE car, pct` (R181): rejected on a car id of 6 or above or a percentage outside 1..`RATE_MAX`; else that
car's rate is `PCT`, and no drive byte is rescaled. Rests on D42. -/
def Obligations.SetPowerRateWritesOneRate : Prop :=
  ∀ (s : State) (car : BitVec 4) (pct : BitVec 8), s.params.wf = true → ∃ t, exec (.setPowerRate car pct) s = .next t ∧
    (6 ≤ car.toNat ∨ pct.toNat = 0 ∨ s.params.rateMax.toNat < pct.toNat →
      t = { s with cmdStatus := .invalidArgument, cmdResult := 0 }) ∧
    (car.toNat < 6 ∧ 1 ≤ pct.toNat ∧ pct.toNat ≤ s.params.rateMax.toNat →
      (∀ i : Slot, i.val = car.toNat → t.cars[i].powerRate.toNat = pct.toNat) ∧
      (∀ i : Slot, t.cars[i] = { s.cars[i] with powerRate := t.cars[i].powerRate }) ∧
      (∀ i : Slot, i.val ≠ car.toNat → t.cars[i] = s.cars[i]) ∧
      t = { s with cars := t.cars, cmdStatus := .ok, cmdResult := 0 })

/-- `SET_POWER car, pwr` (R182): rejected on a car id of 6 or above or a power above `POWER_MAX`; else the power field is
`pwr * power_rate / 100` truncated, the brake and lane-change bits and the other slots untouched. The rates are in range in
every state a run reaches (StepKeepsTheInvariant). Rests on D7, D36. -/
def Obligations.SetPowerScalesByTheRate : Prop :=
  ∀ (s : State) (car : BitVec 4) (pwr : BitVec 8), s.params.wf = true → (∀ i : Slot, s.cars[i].powerRate.toNat ≤ 100) →
    ∃ t, exec (.setPower car pwr) s = .next t ∧
      (6 ≤ car.toNat ∨ s.params.powerMax.toNat < pwr.toNat → t = { s with cmdStatus := .invalidArgument, cmdResult := 0 }) ∧
      (car.toNat < 6 ∧ pwr.toNat ≤ s.params.powerMax.toNat →
        (∀ i : Slot, i.val = car.toNat →
          (drivePower t.drive[i]).toNat = pwr.toNat * s.cars[i].powerRate.toNat / 100 ∧
          driveBrake t.drive[i] = driveBrake s.drive[i] ∧ driveLane t.drive[i] = driveLane s.drive[i]) ∧
        (∀ i : Slot, i.val ≠ car.toNat → t.drive[i] = s.drive[i]) ∧
        t = { s with drive := t.drive, cmdStatus := .ok, cmdResult := 0 })

/-- `SET_BRAKE car, v` and `SET_LANE_CHANGE car, v` (R183, R184): rejected on a car id of 6 or above; else bit 7, or bit 6, of
that drive byte alone is written, active-low. Rests on D7. -/
def Obligations.SetBrakeAndSetLaneChangeWriteOneBit : Prop :=
  (∀ (s : State) (car : BitVec 4) (v : BitVec 1), ∃ t, exec (.setBrake car v) s = .next t ∧
    (6 ≤ car.toNat → t = { s with cmdStatus := .invalidArgument, cmdResult := 0 }) ∧
    (car.toNat < 6 →
      (∀ (i : Slot) (b : Fin 8), t.drive[i].getLsbD b.val =
        if i.val = car.toNat ∧ b = 7 then decide (v = 0) else s.drive[i].getLsbD b.val) ∧
      t = { s with drive := t.drive, cmdStatus := .ok, cmdResult := 0 })) ∧
  (∀ (s : State) (car : BitVec 4) (v : BitVec 1), ∃ t, exec (.setLaneChange car v) s = .next t ∧
    (6 ≤ car.toNat → t = { s with cmdStatus := .invalidArgument, cmdResult := 0 }) ∧
    (car.toNat < 6 →
      (∀ (i : Slot) (b : Fin 8), t.drive[i].getLsbD b.val =
        if i.val = car.toNat ∧ b = 6 then decide (v = 0) else s.drive[i].getLsbD b.val) ∧
      t = { s with drive := t.drive, cmdStatus := .ok, cmdResult := 0 }))

/-- `GET_GAME_STATE sel` and `GET_LAST_UPDATE sel` (R185, R186): the value R96 lists for each selector, the two halves of a
64-bit value, the six positions at three bits each; a selector R96 does not list is rejected; nothing but the response is
written. Rests on D30. -/
def Obligations.SelectorsReadTheListedValues : Prop :=
  (∀ (s : State) (sel : BitVec 8), ∃ t, exec (.getGameState sel) s = .next t ∧
    t = { s with cmdStatus := if sel.toNat ≤ 6 then .ok else .invalidArgument, cmdResult := t.cmdResult } ∧
    (sel = 0 → t.cmdResult = match s.gameState with
      | .stopped => 0
      | .countdown => 1
      | .race => 2
      | .starting => 3
      | .training => 4
      | .binding => 5) ∧
    (sel = 1 → t.cmdResult = s.targetLaps) ∧ (sel = 2 → t.cmdResult.toNat = s.activeCarCount.toNat) ∧
    (sel = 3 → t.cmdResult.toNat = s.finishedCarCount.toNat) ∧ (sel = 4 → t.cmdResult.toNat = s.gameTime.toNat % 2 ^ 32) ∧
    (sel = 5 → t.cmdResult.toNat = s.gameTime.toNat / 2 ^ 32) ∧
    (sel = 6 → t.cmdResult.toNat < 2 ^ 18 ∧ ∀ k : Slot, t.cmdResult.toNat / 8 ^ k.val % 8 = s.positions[k].val) ∧
    (6 < sel.toNat → t.cmdResult = 0)) ∧
  (∀ (s : State) (sel : BitVec 8), ∃ t, exec (.getLastUpdate sel) s = .next t ∧
    t = { s with cmdStatus := if sel.toNat ≤ 1 then .ok else .invalidArgument, cmdResult := t.cmdResult } ∧
    (sel = 0 → t.cmdResult.toNat = s.lastUpdate.toNat % 2 ^ 32) ∧
    (sel = 1 → t.cmdResult.toNat = s.lastUpdate.toNat / 2 ^ 32) ∧ (1 < sel.toNat → t.cmdResult = 0))

/-- `LED_RESET` (R187, R150): the two-phase reset is requested from its first cycle, even while one is in progress; no state
change, no event. Rests on D7, D21. -/
def Obligations.LedResetRequestsCycleOne : Prop :=
  ∀ s : State, exec .ledReset s = .next { s with ledPhase := .cycle1, cmdStatus := .ok, cmdResult := 0 }

/-- "A rejected command has no partial effect" (R190): a command whose operands R95 and R96 do not call valid writes the
response alone, a command whose operands they call valid answers OK. Rests on the spec's own derivation in R190. -/
def Obligations.CommandIsRejectedExactlyOnInvalidOperands : Prop :=
  ∀ (i : Instr) (s : State), i.isCommand = true → ∃ t, exec i s = .next t ∧
    (i.wellFormed s.params = false → t = { s with cmdStatus := .invalidArgument, cmdResult := 0 }) ∧
    (i.wellFormed s.params = true → t.cmdStatus = .ok)

/-- What no command touches: the link cycle, the frame being transmitted (R70, R308), the previous frame, the handset table,
the times of the decode path, `last_update`, the LED byte, the update deadline, a pending grace timer (R221, R309), the
outputs to the line and the log. The bind timeout of R282 is not among them: `BIND` restarts it. Rests on D22, D48; that
the parameters, the inputs and the clock are fields a command keeps is notes/assumptions/1.md and 3.md. -/
def Obligations.CommandsLeaveTheLinkAndTheGraceTimerAlone : Prop :=
  ∀ (i : Instr) (s t : State), i.isCommand = true → exec i s = .next t →
    t.params = s.params ∧ t.inputs = s.inputs ∧ t.clock = s.clock ∧ t.linkState = s.linkState ∧ t.rxBuf = s.rxBuf ∧
    t.rxCount = s.rxCount ∧ t.prevFrame = s.prevFrame ∧ t.txBuf = s.txBuf ∧ t.txIdx = s.txIdx ∧
    t.lastUpdate = s.lastUpdate ∧ t.linkConnected = s.linkConnected ∧ t.opMode = s.opMode ∧ t.ledStatus = s.ledStatus ∧
    t.gameTime = s.gameTime ∧ t.nextUpdate = s.nextUpdate ∧ t.conn = s.conn ∧ t.finishPending = s.finishPending ∧
    t.finishDeadline = s.finishDeadline ∧ t.diagLog = s.diagLog ∧ t.txOut = s.txOut ∧
    t.fault.illegalEvent = s.fault.illegalEvent ∧
    ∀ j : Slot, t.cars[j].startTime = s.cars[j].startTime ∧ t.cars[j].lastCrossingTime = s.cars[j].lastCrossingTime

/-! Link events. -/

/-- `RX_BYTE b` in READ before the fifteenth byte is stored at the cursor, the cursor advances, and nothing else changes
(R141, R64); outside READ it is dropped and no state changes (R142). Rests on D19. -/
def Obligations.ReceivedByteIsStoredOrDropped : Prop :=
  (∀ (s : State) (b : Byte) (k : Fin 14), s.linkState = .read → s.rxCount.toNat = k.val →
    exec (.rxByte b) s = .next { s with rxBuf := s.rxBuf.set k.val b, rxCount := BitVec.ofNat 4 (k.val + 1) }) ∧
  (∀ (s : State) (b : Byte), s.linkState ≠ .read → exec (.rxByte b) s = .next s)

/-- FrameCorrupt is silent (R146, R271): the fifteenth byte of a frame whose checksum fails moves the cycle on to WRITE and
does nothing else; with no LED reset pending only the buffer, the cursors, `tx_buf` and the link state change. -/
def Obligations.CorruptFrameMovesTheCycleOnly : Prop :=
  ∀ (s : State) (b : Byte), s.linkState = .read → s.rxCount = 14 → frameOk s.params (s.rxBuf.set 14 b) = false →
    ∃ t, exec (.rxByte b) s = .next t ∧ t = enterWrite { s with rxBuf := s.rxBuf.set 14 b, rxCount := 0 } ∧
      t.lastUpdate = s.lastUpdate ∧ t.prevFrame = s.prevFrame ∧ t.cars = s.cars ∧ t.positions = s.positions ∧
      t.conn = s.conn ∧ t.drive = s.drive ∧ t.gameTime = s.gameTime ∧ t.linkConnected = s.linkConnected ∧
      t.diagLog = s.diagLog ∧
      (s.ledPhase = .idle →
        t = { s with rxBuf := s.rxBuf.set 14 b, rxCount := 0, txBuf := encodeOut s.params s.opMode s.drive s.ledStatus,
                     txIdx := 0, linkState := .write })

/-- The fifteenth byte of a good frame (R143 to R145): `on_frame` runs against the previous accepted frame, after the
connect check; the time, the frame and the connection are recorded; the cycle enters WRITE with a fresh outbound frame;
parameters, selections, rates, binding and response registers are untouched.
Rests on D24 for the connect check and its log entry and on
D9 for the time (notes/assumptions/13.md); inputs, clock and parameters are notes/assumptions/1.md and 3.md. -/
def Obligations.GoodFrameIsAcceptedWhole : Prop :=
  ∀ (s : State) (b : Byte), s.linkState = .read → s.rxCount = 14 → frameOk s.params (s.rxBuf.set 14 b) = true →
    ∃ t, exec (.rxByte b) s = .next t ∧
      (∃ u, u = onFrame (s.rxBuf.set 14 b) s.prevFrame
          (connectCheck { s with rxBuf := s.rxBuf.set 14 b, rxCount := 15, lastUpdate := s.clock }) ∧
        t = enterWrite { u with prevFrame := s.rxBuf.set 14 b, rxCount := 0 }) ∧
      t.lastUpdate = s.clock ∧ t.prevFrame = s.rxBuf.set 14 b ∧ t.linkConnected = true ∧ t.rxBuf = s.rxBuf.set 14 b ∧
      t.diagLog = (if s.linkConnected then s.diagLog else s.diagLog ++ [.connected]) ∧
      t.linkState = .write ∧ t.rxCount = 0 ∧ t.txIdx = 0 ∧
      t.txBuf = encodeOut s.params s.opMode t.drive t.ledStatus ∧
      t.params = s.params ∧ t.inputs = s.inputs ∧ t.clock = s.clock ∧ t.opMode = s.opMode ∧ t.targetLaps = s.targetLaps ∧
      t.activeCarCount = s.activeCarCount ∧ t.bindStart = s.bindStart ∧ t.bindTarget = s.bindTarget ∧
      t.cmdStatus = s.cmdStatus ∧ t.cmdResult = s.cmdResult ∧ t.txOut = s.txOut ∧
      t.fault.illegalEvent = s.fault.illegalEvent ∧
      ∀ i : Slot, t.cars[i].active = s.cars[i].active ∧ t.cars[i].powerRate = s.cars[i].powerRate

/-- `connect_check()` (R145, R253): the first good frame marks the link connected, logs it, resets race data and requests
an LED reset; the game state and the event queue are not touched; later frames find it done. Rests on D24. -/
def Obligations.ConnectCheckActsOnceAfterAReconnect : Prop :=
  ∀ s : State,
    let t := connectCheck s
    (s.linkConnected = true → t = s) ∧
    (s.linkConnected = false →
      RaceDataReset s t ∧
      t = { s with linkConnected := true, diagLog := s.diagLog ++ [.connected], ledPhase := .cycle1, cars := t.cars,
                   finishedCarCount := t.finishedCarCount, positions := t.positions })

/-- `TX_READY` (R151, R152): in WRITE with bytes left, byte `tx_idx` goes out; the ninth returns the block to READ with empty
cursors; otherwise no state changes. Rests on D20. -/
def Obligations.TxReadyEmitsTheNextByte : Prop :=
  ∀ s : State,
    (∀ k : Fin 8, s.linkState = .write → s.txIdx.toNat = k.val →
      exec .txReady s = .next { s with txOut := s.txOut ++ [s.txBuf[k.val]], txIdx := BitVec.ofNat 4 (k.val + 1) }) ∧
    (s.linkState = .write → s.txIdx = 8 →
      exec .txReady s = .next { s with txOut := s.txOut ++ [s.txBuf[8]], txIdx := 0, rxCount := 0, linkState := .read }) ∧
    (s.linkState ≠ .write ∨ 9 ≤ s.txIdx.toNat → exec .txReady s = .next s)

/-- Nine `TX_READY` after entering WRITE put the nine bytes of `tx_buf` on the line in offset order and end in READ (R61,
R140, R151, R152). Rests on D20. The list of inputs is notes/assumptions/1.md. -/
def Obligations.NineTxReadySendTheWholeFrame : Prop :=
  ∀ s : State, s.linkState = .write → s.txIdx = 0 → s.inputs = List.replicate 9 { t := s.clock, word := .event 0x200 } →
    Sys2Proof.core.run 9 s =
      .next { s with inputs := [], txOut := s.txOut ++ s.txBuf.toList, rxCount := 0, linkState := .read }

/-- Fourteen received bytes change nothing but the inbound buffer and its cursor: "a corrupted frame is never partially
trusted" (R64), and they stand in the buffer in the order received (R61, R141). Rests on the spec's own derivation in R61.
The list of inputs is notes/assumptions/1.md. -/
def Obligations.FourteenBytesAccumulateInOrder : Prop :=
  ∀ (s : State) (x : Vector Byte 14), s.linkState = .read → s.rxCount = 0 →
    s.inputs = x.toList.map (fun b => { t := s.clock, word := .event (0x1#4 ++ b) }) →
      ∃ t, Sys2Proof.core.run 14 s = .next t ∧ t = { s with inputs := [], rxBuf := t.rxBuf, rxCount := 14 } ∧
        t.rxBuf.toList.take 14 = x.toList ∧ t.rxBuf[14] = s.rxBuf[14]

/-- `IO_ERROR` in every link state: HALTED, cursors cleared, logged; the race state, `last_update` and `link_connected`
unchanged (R153, R272). Rests on D45. -/
def Obligations.IoErrorHaltsTheCycle : Prop :=
  ∀ s : State, exec .ioError s =
    .next { s with linkState := .halted, rxCount := 0, txIdx := 0, diagLog := s.diagLog ++ [.ioFailure] }

/-- `WATCHDOG_TICK` (R250): nothing unless the cycle is HALTED or the gap is strictly above `SILENCE_US`, connected or not;
then the reconnect of R251, in one step. Rests on D18, D23, D45, D47. -/
def Obligations.WatchdogReconnectsOnSilenceOrHalt : Prop :=
  ∀ s : State, ∃ t, exec .watchdogTick s = .next t ∧
    (s.linkState ≠ .halted ∧ (s.clock - s.lastUpdate).toNat ≤ s.params.silenceUs.toNat → t = s) ∧
    (s.linkState = .halted ∨ s.params.silenceUs.toNat < (s.clock - s.lastUpdate).toNat →
      t = enterWrite { s with diagLog := s.diagLog ++ [.disconnect, .reopen], linkConnected := false, rxCount := 0,
                              txIdx := 0, lastUpdate := s.clock } ∧
      t.linkState = .write ∧ t.rxCount = 0 ∧ t.txIdx = 0 ∧ t.lastUpdate = s.clock ∧ t.linkConnected = false ∧
      (s.ledPhase = .idle →
        t = { s with diagLog := s.diagLog ++ [.disconnect, .reopen], linkConnected := false, rxCount := 0, txIdx := 0,
                     lastUpdate := s.clock, linkState := .write,
                     txBuf := encodeOut s.params s.opMode s.drive s.ledStatus }))

/-- `TIMER_TICK` (R227): nothing unless the finish timer is pending and due; due, it is cleared, and if the counts are equal
the race finishes: STOPPED, the final ranking, and `GameFinished` with the active cars in ranked order. Rests on D22, D50. -/
def Obligations.TimerTickFinishesTheRaceWhenDue : Prop :=
  ∀ s : State, ∃ t, exec .timerTick s = .next t ∧
    (s.finishPending = false ∨ s.clock.toNat < s.finishDeadline.toNat → t = s) ∧
    (s.finishPending = true ∧ s.finishDeadline.toNat ≤ s.clock.toNat →
      (s.finishedCarCount ≠ s.activeCarCount → t = { s with finishPending := false }) ∧
      (s.finishedCarCount = s.activeCarCount →
        Ranked s.cars t.positions ∧ (if s.gameState = .stopped then t.drive = s.drive else PowerCut s t) ∧
        t.ledPhase = (if s.gameState = .stopped then s.ledPhase else .cycle1) ∧
        Raises s t (changeTo s .stopped ++
          [.gameFinished s.gameTime (t.positions.toList.filter fun i => s.cars[i].active)]) ∧
        t = { s with finishPending := false, gameState := .stopped, positions := t.positions, drive := t.drive,
                     ledPhase := t.ledPhase, eventQ := t.eventQ, fault := t.fault }))

/-! The decode path. -/

/-- In BINDING a frame runs step 1 alone (R210, R211): before `BIND_US` the LED byte becomes the pattern of the target,
from `BIND_US` on the block enters TRAINING with an LED reset; the rest of the frame is never looked at. Rests on D9, D33. -/
def Obligations.BindingFrameRunsStepOneOnly : Prop :=
  ∀ (s : State) (f g : InFrame), s.params.wf = true → s.gameState = .binding →
    let t := onFrame f g s
    ((s.clock - s.bindStart).toNat < s.params.bindUs.toNat →
      (∀ b : Fin 8, t.ledStatus.getLsbD b.val =
        (decide (b = s.params.ledRedBit ∨ b = s.params.ledHandsetBit[s.bindTarget]) ^^ s.params.ledActiveLow)) ∧
      t = { s with ledStatus := t.ledStatus }) ∧
    (s.params.bindUs.toNat ≤ (s.clock - s.bindStart).toNat →
      RaceDataReset s t ∧ Raises s t [.stateChange .training] ∧
      t = { s with gameState := .training, ledPhase := .cycle1, cars := t.cars, finishedCarCount := t.finishedCarCount,
                   positions := t.positions, eventQ := t.eventQ, fault := t.fault })

/-- `connectivity_step` (R212): the table and the six handset LEDs take the frame's connectivity, green and red stay, and one
event is raised for each handset that changed, in slot order. Rests on D3, D33. -/
def Obligations.ConnectivityStepNotifiesChangesInSlotOrder : Prop :=
  ∀ (s : State) (f : InFrame), s.params.wf = true →
    let t := connectivityStep f s
    (∀ i : Slot, t.conn[i] = connIn s.params f i) ∧
    (∀ i : Slot, t.ledStatus.getLsbD s.params.ledHandsetBit[i].val = (connIn s.params f i ^^ s.params.ledActiveLow)) ∧
    t.ledStatus.getLsbD s.params.ledGreenBit.val = s.ledStatus.getLsbD s.params.ledGreenBit.val ∧
    t.ledStatus.getLsbD s.params.ledRedBit.val = s.ledStatus.getLsbD s.params.ledRedBit.val ∧
    Raises s t ((allSlots.filter fun i => connIn s.params f i != s.conn[i]).map
      fun i => .connectivityChange i (connIn s.params f i)) ∧
    t = { s with conn := t.conn, ledStatus := t.ledStatus, eventQ := t.eventQ, fault := t.fault }

/-- `map_handset(i, h, hp)` (R214): each of brake, lane change and power follows the handset where its bits differ from the
frame before, and keeps its drive value where they do not; the other slots are untouched. Rests on D42. -/
def Obligations.HandsetEdgesMapToTheDriveByte : Prop :=
  ∀ (s : State) (i : Slot) (h hp : Byte), s.cars[i].powerRate.toNat ≤ 100 →
    let t := mapHandset i h hp s
    driveBrake t.drive[i] = (if h.getLsbD 7 = hp.getLsbD 7 then driveBrake s.drive[i] else !(h.getLsbD 7)) ∧
    driveLane t.drive[i] = (if h.getLsbD 6 = hp.getLsbD 6 then driveLane s.drive[i] else !(h.getLsbD 6)) ∧
    (drivePower t.drive[i]).toNat =
      (if h.toNat % 64 = hp.toNat % 64 then (drivePower s.drive[i]).toNat
       else (63 - h.toNat % 64) * s.cars[i].powerRate.toNat / 100) ∧
    (∀ j : Slot, j ≠ i → t.drive[j] = s.drive[j]) ∧ t = { s with drive := t.drive }

/-- `drive_step` (R213): nothing in STOPPED; each slot is mapped, coasts or is left alone by its own flags and the state,
independently of the others; only drive bytes change. -/
def Obligations.DriveStepTreatsEachSlotByItsFlags : Prop :=
  ∀ (s : State) (f g : InFrame),
    let t := driveStep f g s
    (s.gameState = .stopped → t = s) ∧
    (s.gameState ≠ .stopped → ∀ i : Slot,
      (s.gameState = .training ∨ (s.cars[i].active = true ∧ s.cars[i].finished = false) →
        t.drive[i] = (mapHandset i (f[1 + i.val]) (g[1 + i.val]) s).drive[i]) ∧
      (s.gameState ≠ .training ∧ s.cars[i].active = true ∧ s.cars[i].finished = true →
        t.drive[i] = (coast i s).drive[i]) ∧
      (s.gameState ≠ .training ∧ s.cars[i].active = false → t.drive[i] = s.drive[i])) ∧
    t = { s with drive := t.drive }

/-- `coast(i)` (R215): power `COAST_POWER` raw while the game time since the finishing crossing is under `COAST_US`, then 0;
brake and lane change kept, the other slots untouched. Rests on D11. -/
def Obligations.CoastHoldsThenCutsPower : Prop :=
  ∀ (s : State) (i : Slot),
    let t := coast i s
    drivePower t.drive[i] =
      (if (s.gameTime - s.cars[i].lastCrossingTime).toNat < s.params.coastUs.toNat then s.params.coastPower else 0) ∧
    driveBrake t.drive[i] = driveBrake s.drive[i] ∧ driveLane t.drive[i] = driveLane s.drive[i] ∧
    (∀ j : Slot, j ≠ i → t.drive[j] = s.drive[j]) ∧ t = { s with drive := t.drive }

/-- A false start (R222, R217): a changed lap timer with car id 1..6 in STARTING or COUNTDOWN raises exactly `FalseStart` of
that car and `StateChange(STOPPED)`, enters STOPPED with power cut and an LED reset, and counts nothing.
Rests on D16 (ids 1 to 6 alone name a car), D10 and D15 (the game time stands, no update) and D43 (the brake stays). -/
def Obligations.FalseStartStopsTheRace : Prop :=
  ∀ (s : State) (f g : InFrame) (k : Slot), s.gameState = .starting ∨ s.gameState = .countdown →
    lapTimer s.params f ≠ lapTimer s.params g → f[8].toNat % 8 = k.val + 1 →
      let t := crossingStep f g s
      Raises s t [.falseStart k, .stateChange .stopped] ∧
      t = { s with gameState := .stopped, ledPhase := .cycle1, drive := (cutPower s).drive, eventQ := t.eventQ,
                   fault := t.fault }

/-- A frame whose lap timer equals the previous frame's is no crossing; one whose timer differs sets `game_time` in RACE and
TRAINING alone (R216). With the id of car `k`, in TRAINING, or in RACE with that car active and not finished, it runs
`lap_bookkeeping(k, now)` and then `update_check(now)`. It counts for no car where its id is 0 or 7, or the state is STOPPED,
or in RACE its car is inactive or finished (R217): then only the game time and the update check remain, and no `Lap` and no
`FalseStart` is raised. Rests on D10, D12, D16. -/
def Obligations.OnlyACountedCrossingTouchesACar : Prop :=
  ∀ (s : State) (f g : InFrame),
    let t := crossingStep f g s
    let now := ticksToUs s.params (lapTimer s.params f)
    (lapTimer s.params f = lapTimer s.params g → t = s) ∧
    (lapTimer s.params f ≠ lapTimer s.params g →
      (s.gameState = .race ∨ s.gameState = .training → t.gameTime = now) ∧
      (s.gameState ≠ .race ∧ s.gameState ≠ .training → t.gameTime = s.gameTime) ∧
      (∀ k : Slot, f[8].toNat % 8 = k.val + 1 →
        s.gameState = .training ∨ (s.gameState = .race ∧ s.cars[k].active = true ∧ s.cars[k].finished = false) →
          t = updateCheck now (lapBookkeeping k now { s with gameTime := now })) ∧
      ((f[8].toNat % 8 = 0 ∨ f[8].toNat % 8 = 7 ∨ s.gameState = .stopped ∨
          (s.gameState = .race ∧ ∀ k : Slot, f[8].toNat % 8 = k.val + 1 →
            s.cars[k].active = false ∨ s.cars[k].finished = true)) →
        t = updateCheck now (if s.gameState = .race ∨ s.gameState = .training then { s with gameTime := now } else s) ∧
        t.cars = s.cars ∧ t.finishedCarCount = s.finishedCarCount ∧ t.gameState = s.gameState ∧
        ∃ updates : List Event, Raises s t updates ∧ (updates = [] ∨ ∃ time r, updates = [.gameUpdate time r])))

/-- `lap_bookkeeping(k, now)` outside a finish (R218 to R220, TRAINING, or RACE below the target): the crossing time, the
lap count, the record, the event of the completed lap, and the start time of the first crossing; the other cars and
everything else unchanged. Rests on D14. -/
def Obligations.LapIsCountedAndReported : Prop :=
  ∀ (s : State) (k : Slot) (now : Time),
    s.gameState ≠ .race ∨ s.cars[k].laps.toNat + 1 < s.targetLaps.toNat →
      let t := lapBookkeeping k now s
      let lapTime := now - s.cars[k].lastCrossingTime
      let record := decide (s.cars[k].bestLapTime = 0 ∨ lapTime.toNat < s.cars[k].bestLapTime.toNat)
      t.cars[k] = { s.cars[k] with
        lastCrossingTime := now, laps := s.cars[k].laps + 1,
        bestLapTime := if s.cars[k].laps ≠ 0 ∧ record = true then lapTime else s.cars[k].bestLapTime,
        startTime := if s.cars[k].laps = 0 then now else s.cars[k].startTime } ∧
      (∀ j : Slot, j ≠ k → t.cars[j] = s.cars[j]) ∧
      Raises s t (if s.cars[k].laps = 0 then [] else [.lap k s.cars[k].laps lapTime record]) ∧
      t = { s with cars := t.cars, eventQ := t.eventQ, fault := t.fault }

/-- The finishing crossing (R218 to R221): in RACE at the target the car is finished, its lap count is kept, its lap time is
tested for a record and reported like any other (its first crossing records the start time instead); the finished count goes
up, and when it reaches the active count the grace timer is set `GRACE_US` ahead, pending or not before. Rests on D13, D14,
D22. -/
def Obligations.FinishIsCountedAndScheduled : Prop :=
  ∀ (s : State) (k : Slot) (now : Time),
    s.gameState = .race → s.targetLaps.toNat ≤ s.cars[k].laps.toNat + 1 →
      let t := lapBookkeeping k now s
      let lapTime := now - s.cars[k].lastCrossingTime
      let record := decide (s.cars[k].bestLapTime = 0 ∨ lapTime.toNat < s.cars[k].bestLapTime.toNat)
      t.cars[k] = { s.cars[k] with
        finished := true, lastCrossingTime := now,
        bestLapTime := if s.cars[k].laps ≠ 0 ∧ record = true then lapTime else s.cars[k].bestLapTime,
        startTime := if s.cars[k].laps = 0 then now else s.cars[k].startTime } ∧
      (∀ j : Slot, j ≠ k → t.cars[j] = s.cars[j]) ∧ t.finishedCarCount = s.finishedCarCount + 1 ∧
      Raises s t (if s.cars[k].laps = 0 then [] else [.lap k s.cars[k].laps lapTime record]) ∧
      (t.finishedCarCount = s.activeCarCount → t.finishPending = true ∧ t.finishDeadline = s.clock + s.params.graceUs) ∧
      (t.finishedCarCount ≠ s.activeCarCount →
        t.finishPending = s.finishPending ∧ t.finishDeadline = s.finishDeadline) ∧
      t = { s with cars := t.cars, finishedCarCount := t.finishedCarCount, finishPending := t.finishPending,
                   finishDeadline := t.finishDeadline, eventQ := t.eventQ, fault := t.fault }

/-- `update_check(now)` (R223): in RACE or TRAINING, strictly past the boundary, the positions are ranked anew, one
`GameUpdate` reports them, and the boundary moves by `UPDATE_US`, not to `now`; otherwise nothing. Rests on D15, D34. -/
def Obligations.GameUpdateAdvancesTheBoundaryByOneStep : Prop :=
  ∀ (s : State) (now : Time),
    let t := updateCheck now s
    (now.toNat ≤ s.nextUpdate.toNat ∨ (s.gameState ≠ .race ∧ s.gameState ≠ .training) → t = s) ∧
    (s.nextUpdate.toNat < now.toNat ∧ (s.gameState = .race ∨ s.gameState = .training) →
      Ranked s.cars t.positions ∧ t.nextUpdate = s.nextUpdate + s.params.updateUs ∧
      Raises s t [.gameUpdate s.gameTime
        (t.positions.toList.filter fun i => decide (s.gameState = .training) || s.cars[i].active)] ∧
      t = { s with positions := t.positions, nextUpdate := t.nextUpdate, eventQ := t.eventQ, fault := t.fault })

/-- `button_step` (R224, R310): no event when the byte is unchanged or no button is pressed; else exactly one, for the
highest-priority pressed button, whether or not its own bit toggled. Rests on D5, D32. -/
def Obligations.ButtonStepReportsTheHighestPressed : Prop :=
  ∀ (s : State) (f g : InFrame),
    let t := buttonStep f g s
    (f[13] = g[13] ∨ (∀ b : Fin 6, f[13].getLsbD s.params.btnBit[b].val = true) → t = s) ∧
    (∀ b : Button, f[13] ≠ g[13] → f[13].getLsbD s.params.btnBit[buttonCode b].val = false →
      (∀ b' : Button, buttonCode b' < buttonCode b → f[13].getLsbD s.params.btnBit[buttonCode b'].val = true) →
        Raises s t [.button b]) ∧
    t = { s with eventQ := t.eventQ, fault := t.fault }

/-- Outside BINDING a frame runs the connectivity, drive, crossing and button steps in that order, each on the state the one
before left (R210). The event order within one accepted frame (R229): one connectivity change for each slot whose bit differs
from `conn`, in slot order, then a lap or a false start with its state change, then at most one update, then at most one
button; in BINDING at most the change to TRAINING. Rests on the spec's own derivation in R229, and on D3. -/
def Obligations.FrameEventsComeInTheStatedOrder : Prop :=
  ∀ (s : State) (f g : InFrame),
    (s.gameState ≠ .binding →
      onFrame f g s = buttonStep f g (crossingStep f g (driveStep f g (connectivityStep f s)))) ∧
    ∃ conns crossed updates buttons : List Event,
      Raises s (onFrame f g s) (conns ++ crossed ++ updates ++ buttons) ∧
      (s.gameState = .binding → conns = [] ∧ updates = [] ∧ buttons = [] ∧
        (crossed = [] ∨ crossed = [.stateChange .training])) ∧
      (s.gameState ≠ .binding →
        conns = ((allSlots.filter fun i => connIn s.params f i != s.conn[i]).map
          fun i => .connectivityChange i (connIn s.params f i)) ∧
        (crossed = [] ∨ (∃ k n lapTime r, crossed = [.lap k n lapTime r]) ∨
          ∃ k, crossed = [.falseStart k, .stateChange .stopped]) ∧
        (updates = [] ∨ ∃ time r, updates = [.gameUpdate time r]) ∧ (buttons = [] ∨ ∃ b, buttons = [.button b]))

/-- The frame's bits no rule reads change nothing (R81, R83, R84, R86; I3 to I6): two frames that agree on connectivity,
handsets, car id, lap timer and the button byte are one to the decode path. Rests on D3, D5. -/
def Obligations.UnreadFrameBitsHaveNoEffect : Prop :=
  ∀ (s : State) (f f' g g' : InFrame),
    (∀ i : Slot, connIn s.params f i = connIn s.params f' i ∧ f[1 + i.val] = f'[1 + i.val] ∧ g[1 + i.val] = g'[1 + i.val]) →
    f[8].toNat % 8 = f'[8].toNat % 8 → lapTimer s.params f = lapTimer s.params f' →
    lapTimer s.params g = lapTimer s.params g' → f[13] = f'[13] → g[13] = g'[13] →
      onFrame f g s = onFrame f' g' s

/-! Whole-machine rules. -/

/-- The invariant holds after power-on with any parameters the spec allows. Rests on D17, D37. -/
def Obligations.PowerOnMeetsTheInvariant : Prop :=
  (∀ (p : Params) (t0 : Time), p.wf = true → (State.powerOn p t0).Inv) ∧ State.reset.Inv

/-- Every step keeps the invariant: the counts match their flags, positions stay a permutation, rates and cursors stay in
range, `op_mode` and the outbound checksum hold, STARTING keeps its LED reset pending, a race's lap counts stay below the
target, a bounded queue within its depth (R22, R26, R32, R33, R35, R39, R51, R113, R228).
Rests on the spec's own derivations in R32, R33 and R39, and D31. -/
def Obligations.StepKeepsTheInvariant : Prop :=
  ∀ s t : State, s.Inv → step s = .next t → t.Inv

/-- The outputs only grow and the fault bits stick: over a step the log, the transmitted bytes, and the event queue once the
Event Sink has taken its records, are extended at their tails; no fault bit is cleared; the parameters never change (R48
to R51). Rests on D29.
The model's choices: that the parameters are a field no step writes
(notes/assumptions/3.md), the list of inputs and the clock (1.md), and the count of records the sink took (5.md). -/
def Obligations.OutputsOnlyGrowAndFaultsStick : Prop :=
  ∀ (s t : State) (inp : Input) (rest : List Input), s.inputs = inp :: rest → step s = .next t →
    s.eventQ.drop inp.sinkTakes <+: t.eventQ ∧ s.diagLog <+: t.diagLog ∧ s.txOut <+: t.txOut ∧
    (s.fault.evqOverflow = true → t.fault.evqOverflow = true) ∧
    (s.fault.illegalEvent = true → t.fault.illegalEvent = true) ∧ t.params = s.params ∧ t.inputs = rest ∧ t.clock = inp.t

/-- "Strict half-duplex" (R66): bytes are emitted only by a `TX_READY` in WRITE and stored only by an `RX_BYTE` in READ, and
the link state changes only along the transitions of R140; a byte outside READ is dropped.
Rests on D45
(HALTED), D18 (reconnect to WRITE), D20 (when a write is complete) and D19 (the dropped byte). -/
def Obligations.LinkIsStrictlyHalfDuplex : Prop :=
  ∀ (i : Instr) (s t : State), exec i s = .next t →
    (t.txOut ≠ s.txOut → i = .txReady ∧ s.linkState = .write) ∧
    (t.rxBuf ≠ s.rxBuf → (∃ b, i = .rxByte b) ∧ s.linkState = .read) ∧
    (∀ b : Byte, i = .rxByte b → s.linkState ≠ .read → t = s) ∧
    (t.linkState ≠ s.linkState → linkTransition i s t.linkState = true)

/-- The game state changes only along the rows of the transition table (R172), and RACE is entered only from STARTING by LED
cycle 2 (R149, R306). -/
def Obligations.GameStateFollowsTheTransitionTable : Prop :=
  ∀ (i : Instr) (s t : State), exec i s = .next t → t.gameState ≠ s.gameState →
    gameTransition i s.gameState t.gameState = true ∧
    (t.gameState = .race → s.gameState = .starting ∧ s.ledPhase = .cycle2)

/-- Each of the six error classes of R270 is reported by the rule that detects it, and by no other (R271 to R276, R280): a
corrupt frame is silent; `IO_FAILURE` is logged by an I/O error alone; `DISCONNECT` and `REOPEN` by a watchdog tick on a silent
or HALTED link alone; `cmd_status` names an invalid argument and an input event leaves the response registers as they are;
`EVQ_OVERFLOW` is set by the records a full queue drops alone (what an unbounded queue would have been given, offered to the
bounded one); `ILLEGAL_EVENT` by a reserved event word alone. Rests on D7, D8, D23, D29, D39, D45. -/
def Obligations.ErrorsAreReportedWhereTheyAreDetected : Prop :=
  (∀ (i : Instr) (s : State), ∃ (t : State) (new : List DiagCode), exec i s = .next t ∧ t.diagLog = s.diagLog ++ new ∧
    (errorOf i s = some .frameCorrupt → new = []) ∧
    (errorOf i s = some .ioFailure → new = [.ioFailure]) ∧
    (.ioFailure ∈ new → errorOf i s = some .ioFailure) ∧
    (errorOf i s = some .linkSilence → new = [.disconnect, .reopen]) ∧
    (.disconnect ∈ new ∨ .reopen ∈ new → i = .watchdogTick ∧ (s.linkState = .halted ∨ errorOf i s = some .linkSilence)) ∧
    (i.isCommand = true → new = [] ∧ (t.cmdStatus = .invalidArgument ↔ errorOf i s = some .invalidArgument)) ∧
    (i.isCommand = false → t.cmdStatus = s.cmdStatus ∧ t.cmdResult = s.cmdResult) ∧
    ∃ (u : State) (evs : List Event),
      exec i { s with params := { s.params with evqDepth := none } } = .next u ∧ u.eventQ = s.eventQ ++ evs ∧
        Raises s t evs) ∧
  (∀ (w : BitVec 32) (s : State), (∀ i, decode (.command w) ≠ .ok i) →
    runWord (.command w) s = .next { s with cmdStatus := .invalidArgument, cmdResult := 0 }) ∧
  ∀ (e : BitVec 12) (s : State), (∀ i, decode (.event e) ≠ .ok i) →
    runWord (.event e) s = .next { s with fault := { s.fault with illegalEvent := true } }

/-- "A consumer's delay never stalls the block" (R277): with an unbounded queue an instruction appends the same records and
does everything else alike, whatever the queue still holds. Rests on D29 for the unbounded queue. -/
def Obligations.ConsumerDelayNeverStallsTheBlock : Prop :=
  ∀ (i : Instr) (s : State), s.params.evqDepth = none →
    ∃ (t : State) (evs : List Event), exec i s = .next t ∧ t.eventQ = s.eventQ ++ evs ∧
      ∀ q : List Event, exec i { s with eventQ := q } = .next { t with eventQ := q ++ evs }
end

