-- ==== Sys2Proof/Laws/State.lean ====
section
/-! SUPPORT. One lemma per field per update: what each named update of the state leaves in every field. True by rfl. -/

namespace Sys2Proof.Machine

variable (s : State)

/-! `present` -/

@[simp] theorem present_params (inp : Input) (rest : List Input) : (present inp rest s).params = s.params := rfl
@[simp] theorem present_inputs (inp : Input) (rest : List Input) : (present inp rest s).inputs = rest := rfl
@[simp] theorem present_clock (inp : Input) (rest : List Input) : (present inp rest s).clock = inp.t := rfl
@[simp] theorem present_linkState (inp : Input) (rest : List Input) : (present inp rest s).linkState = s.linkState := rfl
@[simp] theorem present_rxBuf (inp : Input) (rest : List Input) : (present inp rest s).rxBuf = s.rxBuf := rfl
@[simp] theorem present_rxCount (inp : Input) (rest : List Input) : (present inp rest s).rxCount = s.rxCount := rfl
@[simp] theorem present_prevFrame (inp : Input) (rest : List Input) : (present inp rest s).prevFrame = s.prevFrame := rfl
@[simp] theorem present_txBuf (inp : Input) (rest : List Input) : (present inp rest s).txBuf = s.txBuf := rfl
@[simp] theorem present_txIdx (inp : Input) (rest : List Input) : (present inp rest s).txIdx = s.txIdx := rfl
@[simp] theorem present_lastUpdate (inp : Input) (rest : List Input) : (present inp rest s).lastUpdate = s.lastUpdate := rfl
@[simp] theorem present_linkConnected (inp : Input) (rest : List Input) : (present inp rest s).linkConnected = s.linkConnected := rfl
@[simp] theorem present_opMode (inp : Input) (rest : List Input) : (present inp rest s).opMode = s.opMode := rfl
@[simp] theorem present_drive (inp : Input) (rest : List Input) : (present inp rest s).drive = s.drive := rfl
@[simp] theorem present_ledStatus (inp : Input) (rest : List Input) : (present inp rest s).ledStatus = s.ledStatus := rfl
@[simp] theorem present_ledPhase (inp : Input) (rest : List Input) : (present inp rest s).ledPhase = s.ledPhase := rfl
@[simp] theorem present_gameState (inp : Input) (rest : List Input) : (present inp rest s).gameState = s.gameState := rfl
@[simp] theorem present_targetLaps (inp : Input) (rest : List Input) : (present inp rest s).targetLaps = s.targetLaps := rfl
@[simp] theorem present_activeCarCount (inp : Input) (rest : List Input) : (present inp rest s).activeCarCount = s.activeCarCount := rfl
@[simp] theorem present_finishedCarCount (inp : Input) (rest : List Input) : (present inp rest s).finishedCarCount = s.finishedCarCount := rfl
@[simp] theorem present_gameTime (inp : Input) (rest : List Input) : (present inp rest s).gameTime = s.gameTime := rfl
@[simp] theorem present_positions (inp : Input) (rest : List Input) : (present inp rest s).positions = s.positions := rfl
@[simp] theorem present_nextUpdate (inp : Input) (rest : List Input) : (present inp rest s).nextUpdate = s.nextUpdate := rfl
@[simp] theorem present_cars (inp : Input) (rest : List Input) : (present inp rest s).cars = s.cars := rfl
@[simp] theorem present_conn (inp : Input) (rest : List Input) : (present inp rest s).conn = s.conn := rfl
@[simp] theorem present_bindStart (inp : Input) (rest : List Input) : (present inp rest s).bindStart = s.bindStart := rfl
@[simp] theorem present_bindTarget (inp : Input) (rest : List Input) : (present inp rest s).bindTarget = s.bindTarget := rfl
@[simp] theorem present_finishPending (inp : Input) (rest : List Input) : (present inp rest s).finishPending = s.finishPending := rfl
@[simp] theorem present_finishDeadline (inp : Input) (rest : List Input) : (present inp rest s).finishDeadline = s.finishDeadline := rfl
@[simp] theorem present_cmdStatus (inp : Input) (rest : List Input) : (present inp rest s).cmdStatus = s.cmdStatus := rfl
@[simp] theorem present_cmdResult (inp : Input) (rest : List Input) : (present inp rest s).cmdResult = s.cmdResult := rfl
@[simp] theorem present_eventQ (inp : Input) (rest : List Input) : (present inp rest s).eventQ = s.eventQ.drop inp.sinkTakes := rfl
@[simp] theorem present_diagLog (inp : Input) (rest : List Input) : (present inp rest s).diagLog = s.diagLog := rfl
@[simp] theorem present_txOut (inp : Input) (rest : List Input) : (present inp rest s).txOut = s.txOut := rfl
@[simp] theorem present_fault (inp : Input) (rest : List Input) : (present inp rest s).fault = s.fault := rfl

/-! `setEvqOverflow` -/

@[simp] theorem setEvqOverflow_params : (setEvqOverflow s).params = s.params := rfl
@[simp] theorem setEvqOverflow_inputs : (setEvqOverflow s).inputs = s.inputs := rfl
@[simp] theorem setEvqOverflow_clock : (setEvqOverflow s).clock = s.clock := rfl
@[simp] theorem setEvqOverflow_linkState : (setEvqOverflow s).linkState = s.linkState := rfl
@[simp] theorem setEvqOverflow_rxBuf : (setEvqOverflow s).rxBuf = s.rxBuf := rfl
@[simp] theorem setEvqOverflow_rxCount : (setEvqOverflow s).rxCount = s.rxCount := rfl
@[simp] theorem setEvqOverflow_prevFrame : (setEvqOverflow s).prevFrame = s.prevFrame := rfl
@[simp] theorem setEvqOverflow_txBuf : (setEvqOverflow s).txBuf = s.txBuf := rfl
@[simp] theorem setEvqOverflow_txIdx : (setEvqOverflow s).txIdx = s.txIdx := rfl
@[simp] theorem setEvqOverflow_lastUpdate : (setEvqOverflow s).lastUpdate = s.lastUpdate := rfl
@[simp] theorem setEvqOverflow_linkConnected : (setEvqOverflow s).linkConnected = s.linkConnected := rfl
@[simp] theorem setEvqOverflow_opMode : (setEvqOverflow s).opMode = s.opMode := rfl
@[simp] theorem setEvqOverflow_drive : (setEvqOverflow s).drive = s.drive := rfl
@[simp] theorem setEvqOverflow_ledStatus : (setEvqOverflow s).ledStatus = s.ledStatus := rfl
@[simp] theorem setEvqOverflow_ledPhase : (setEvqOverflow s).ledPhase = s.ledPhase := rfl
@[simp] theorem setEvqOverflow_gameState : (setEvqOverflow s).gameState = s.gameState := rfl
@[simp] theorem setEvqOverflow_targetLaps : (setEvqOverflow s).targetLaps = s.targetLaps := rfl
@[simp] theorem setEvqOverflow_activeCarCount : (setEvqOverflow s).activeCarCount = s.activeCarCount := rfl
@[simp] theorem setEvqOverflow_finishedCarCount : (setEvqOverflow s).finishedCarCount = s.finishedCarCount := rfl
@[simp] theorem setEvqOverflow_gameTime : (setEvqOverflow s).gameTime = s.gameTime := rfl
@[simp] theorem setEvqOverflow_positions : (setEvqOverflow s).positions = s.positions := rfl
@[simp] theorem setEvqOverflow_nextUpdate : (setEvqOverflow s).nextUpdate = s.nextUpdate := rfl
@[simp] theorem setEvqOverflow_cars : (setEvqOverflow s).cars = s.cars := rfl
@[simp] theorem setEvqOverflow_conn : (setEvqOverflow s).conn = s.conn := rfl
@[simp] theorem setEvqOverflow_bindStart : (setEvqOverflow s).bindStart = s.bindStart := rfl
@[simp] theorem setEvqOverflow_bindTarget : (setEvqOverflow s).bindTarget = s.bindTarget := rfl
@[simp] theorem setEvqOverflow_finishPending : (setEvqOverflow s).finishPending = s.finishPending := rfl
@[simp] theorem setEvqOverflow_finishDeadline : (setEvqOverflow s).finishDeadline = s.finishDeadline := rfl
@[simp] theorem setEvqOverflow_cmdStatus : (setEvqOverflow s).cmdStatus = s.cmdStatus := rfl
@[simp] theorem setEvqOverflow_cmdResult : (setEvqOverflow s).cmdResult = s.cmdResult := rfl
@[simp] theorem setEvqOverflow_eventQ : (setEvqOverflow s).eventQ = s.eventQ := rfl
@[simp] theorem setEvqOverflow_diagLog : (setEvqOverflow s).diagLog = s.diagLog := rfl
@[simp] theorem setEvqOverflow_txOut : (setEvqOverflow s).txOut = s.txOut := rfl
@[simp] theorem setEvqOverflow_fault : (setEvqOverflow s).fault = { s.fault with evqOverflow := true } := rfl

/-! `setIllegalEvent` -/

@[simp] theorem setIllegalEvent_params : (setIllegalEvent s).params = s.params := rfl
@[simp] theorem setIllegalEvent_inputs : (setIllegalEvent s).inputs = s.inputs := rfl
@[simp] theorem setIllegalEvent_clock : (setIllegalEvent s).clock = s.clock := rfl
@[simp] theorem setIllegalEvent_linkState : (setIllegalEvent s).linkState = s.linkState := rfl
@[simp] theorem setIllegalEvent_rxBuf : (setIllegalEvent s).rxBuf = s.rxBuf := rfl
@[simp] theorem setIllegalEvent_rxCount : (setIllegalEvent s).rxCount = s.rxCount := rfl
@[simp] theorem setIllegalEvent_prevFrame : (setIllegalEvent s).prevFrame = s.prevFrame := rfl
@[simp] theorem setIllegalEvent_txBuf : (setIllegalEvent s).txBuf = s.txBuf := rfl
@[simp] theorem setIllegalEvent_txIdx : (setIllegalEvent s).txIdx = s.txIdx := rfl
@[simp] theorem setIllegalEvent_lastUpdate : (setIllegalEvent s).lastUpdate = s.lastUpdate := rfl
@[simp] theorem setIllegalEvent_linkConnected : (setIllegalEvent s).linkConnected = s.linkConnected := rfl
@[simp] theorem setIllegalEvent_opMode : (setIllegalEvent s).opMode = s.opMode := rfl
@[simp] theorem setIllegalEvent_drive : (setIllegalEvent s).drive = s.drive := rfl
@[simp] theorem setIllegalEvent_ledStatus : (setIllegalEvent s).ledStatus = s.ledStatus := rfl
@[simp] theorem setIllegalEvent_ledPhase : (setIllegalEvent s).ledPhase = s.ledPhase := rfl
@[simp] theorem setIllegalEvent_gameState : (setIllegalEvent s).gameState = s.gameState := rfl
@[simp] theorem setIllegalEvent_targetLaps : (setIllegalEvent s).targetLaps = s.targetLaps := rfl
@[simp] theorem setIllegalEvent_activeCarCount : (setIllegalEvent s).activeCarCount = s.activeCarCount := rfl
@[simp] theorem setIllegalEvent_finishedCarCount : (setIllegalEvent s).finishedCarCount = s.finishedCarCount := rfl
@[simp] theorem setIllegalEvent_gameTime : (setIllegalEvent s).gameTime = s.gameTime := rfl
@[simp] theorem setIllegalEvent_positions : (setIllegalEvent s).positions = s.positions := rfl
@[simp] theorem setIllegalEvent_nextUpdate : (setIllegalEvent s).nextUpdate = s.nextUpdate := rfl
@[simp] theorem setIllegalEvent_cars : (setIllegalEvent s).cars = s.cars := rfl
@[simp] theorem setIllegalEvent_conn : (setIllegalEvent s).conn = s.conn := rfl
@[simp] theorem setIllegalEvent_bindStart : (setIllegalEvent s).bindStart = s.bindStart := rfl
@[simp] theorem setIllegalEvent_bindTarget : (setIllegalEvent s).bindTarget = s.bindTarget := rfl
@[simp] theorem setIllegalEvent_finishPending : (setIllegalEvent s).finishPending = s.finishPending := rfl
@[simp] theorem setIllegalEvent_finishDeadline : (setIllegalEvent s).finishDeadline = s.finishDeadline := rfl
@[simp] theorem setIllegalEvent_cmdStatus : (setIllegalEvent s).cmdStatus = s.cmdStatus := rfl
@[simp] theorem setIllegalEvent_cmdResult : (setIllegalEvent s).cmdResult = s.cmdResult := rfl
@[simp] theorem setIllegalEvent_eventQ : (setIllegalEvent s).eventQ = s.eventQ := rfl
@[simp] theorem setIllegalEvent_diagLog : (setIllegalEvent s).diagLog = s.diagLog := rfl
@[simp] theorem setIllegalEvent_txOut : (setIllegalEvent s).txOut = s.txOut := rfl
@[simp] theorem setIllegalEvent_fault : (setIllegalEvent s).fault = { s.fault with illegalEvent := true } := rfl

/-! `log` -/

@[simp] theorem log_params (d : DiagCode) : (log d s).params = s.params := rfl
@[simp] theorem log_inputs (d : DiagCode) : (log d s).inputs = s.inputs := rfl
@[simp] theorem log_clock (d : DiagCode) : (log d s).clock = s.clock := rfl
@[simp] theorem log_linkState (d : DiagCode) : (log d s).linkState = s.linkState := rfl
@[simp] theorem log_rxBuf (d : DiagCode) : (log d s).rxBuf = s.rxBuf := rfl
@[simp] theorem log_rxCount (d : DiagCode) : (log d s).rxCount = s.rxCount := rfl
@[simp] theorem log_prevFrame (d : DiagCode) : (log d s).prevFrame = s.prevFrame := rfl
@[simp] theorem log_txBuf (d : DiagCode) : (log d s).txBuf = s.txBuf := rfl
@[simp] theorem log_txIdx (d : DiagCode) : (log d s).txIdx = s.txIdx := rfl
@[simp] theorem log_lastUpdate (d : DiagCode) : (log d s).lastUpdate = s.lastUpdate := rfl
@[simp] theorem log_linkConnected (d : DiagCode) : (log d s).linkConnected = s.linkConnected := rfl
@[simp] theorem log_opMode (d : DiagCode) : (log d s).opMode = s.opMode := rfl
@[simp] theorem log_drive (d : DiagCode) : (log d s).drive = s.drive := rfl
@[simp] theorem log_ledStatus (d : DiagCode) : (log d s).ledStatus = s.ledStatus := rfl
@[simp] theorem log_ledPhase (d : DiagCode) : (log d s).ledPhase = s.ledPhase := rfl
@[simp] theorem log_gameState (d : DiagCode) : (log d s).gameState = s.gameState := rfl
@[simp] theorem log_targetLaps (d : DiagCode) : (log d s).targetLaps = s.targetLaps := rfl
@[simp] theorem log_activeCarCount (d : DiagCode) : (log d s).activeCarCount = s.activeCarCount := rfl
@[simp] theorem log_finishedCarCount (d : DiagCode) : (log d s).finishedCarCount = s.finishedCarCount := rfl
@[simp] theorem log_gameTime (d : DiagCode) : (log d s).gameTime = s.gameTime := rfl
@[simp] theorem log_positions (d : DiagCode) : (log d s).positions = s.positions := rfl
@[simp] theorem log_nextUpdate (d : DiagCode) : (log d s).nextUpdate = s.nextUpdate := rfl
@[simp] theorem log_cars (d : DiagCode) : (log d s).cars = s.cars := rfl
@[simp] theorem log_conn (d : DiagCode) : (log d s).conn = s.conn := rfl
@[simp] theorem log_bindStart (d : DiagCode) : (log d s).bindStart = s.bindStart := rfl
@[simp] theorem log_bindTarget (d : DiagCode) : (log d s).bindTarget = s.bindTarget := rfl
@[simp] theorem log_finishPending (d : DiagCode) : (log d s).finishPending = s.finishPending := rfl
@[simp] theorem log_finishDeadline (d : DiagCode) : (log d s).finishDeadline = s.finishDeadline := rfl
@[simp] theorem log_cmdStatus (d : DiagCode) : (log d s).cmdStatus = s.cmdStatus := rfl
@[simp] theorem log_cmdResult (d : DiagCode) : (log d s).cmdResult = s.cmdResult := rfl
@[simp] theorem log_eventQ (d : DiagCode) : (log d s).eventQ = s.eventQ := rfl
@[simp] theorem log_diagLog (d : DiagCode) : (log d s).diagLog = s.diagLog ++ [d] := rfl
@[simp] theorem log_txOut (d : DiagCode) : (log d s).txOut = s.txOut := rfl
@[simp] theorem log_fault (d : DiagCode) : (log d s).fault = s.fault := rfl

/-! `emit` -/

@[simp] theorem emit_params (b : Byte) : (emit b s).params = s.params := rfl
@[simp] theorem emit_inputs (b : Byte) : (emit b s).inputs = s.inputs := rfl
@[simp] theorem emit_clock (b : Byte) : (emit b s).clock = s.clock := rfl
@[simp] theorem emit_linkState (b : Byte) : (emit b s).linkState = s.linkState := rfl
@[simp] theorem emit_rxBuf (b : Byte) : (emit b s).rxBuf = s.rxBuf := rfl
@[simp] theorem emit_rxCount (b : Byte) : (emit b s).rxCount = s.rxCount := rfl
@[simp] theorem emit_prevFrame (b : Byte) : (emit b s).prevFrame = s.prevFrame := rfl
@[simp] theorem emit_txBuf (b : Byte) : (emit b s).txBuf = s.txBuf := rfl
@[simp] theorem emit_txIdx (b : Byte) : (emit b s).txIdx = s.txIdx := rfl
@[simp] theorem emit_lastUpdate (b : Byte) : (emit b s).lastUpdate = s.lastUpdate := rfl
@[simp] theorem emit_linkConnected (b : Byte) : (emit b s).linkConnected = s.linkConnected := rfl
@[simp] theorem emit_opMode (b : Byte) : (emit b s).opMode = s.opMode := rfl
@[simp] theorem emit_drive (b : Byte) : (emit b s).drive = s.drive := rfl
@[simp] theorem emit_ledStatus (b : Byte) : (emit b s).ledStatus = s.ledStatus := rfl
@[simp] theorem emit_ledPhase (b : Byte) : (emit b s).ledPhase = s.ledPhase := rfl
@[simp] theorem emit_gameState (b : Byte) : (emit b s).gameState = s.gameState := rfl
@[simp] theorem emit_targetLaps (b : Byte) : (emit b s).targetLaps = s.targetLaps := rfl
@[simp] theorem emit_activeCarCount (b : Byte) : (emit b s).activeCarCount = s.activeCarCount := rfl
@[simp] theorem emit_finishedCarCount (b : Byte) : (emit b s).finishedCarCount = s.finishedCarCount := rfl
@[simp] theorem emit_gameTime (b : Byte) : (emit b s).gameTime = s.gameTime := rfl
@[simp] theorem emit_positions (b : Byte) : (emit b s).positions = s.positions := rfl
@[simp] theorem emit_nextUpdate (b : Byte) : (emit b s).nextUpdate = s.nextUpdate := rfl
@[simp] theorem emit_cars (b : Byte) : (emit b s).cars = s.cars := rfl
@[simp] theorem emit_conn (b : Byte) : (emit b s).conn = s.conn := rfl
@[simp] theorem emit_bindStart (b : Byte) : (emit b s).bindStart = s.bindStart := rfl
@[simp] theorem emit_bindTarget (b : Byte) : (emit b s).bindTarget = s.bindTarget := rfl
@[simp] theorem emit_finishPending (b : Byte) : (emit b s).finishPending = s.finishPending := rfl
@[simp] theorem emit_finishDeadline (b : Byte) : (emit b s).finishDeadline = s.finishDeadline := rfl
@[simp] theorem emit_cmdStatus (b : Byte) : (emit b s).cmdStatus = s.cmdStatus := rfl
@[simp] theorem emit_cmdResult (b : Byte) : (emit b s).cmdResult = s.cmdResult := rfl
@[simp] theorem emit_eventQ (b : Byte) : (emit b s).eventQ = s.eventQ := rfl
@[simp] theorem emit_diagLog (b : Byte) : (emit b s).diagLog = s.diagLog := rfl
@[simp] theorem emit_txOut (b : Byte) : (emit b s).txOut = s.txOut ++ [b] := rfl
@[simp] theorem emit_fault (b : Byte) : (emit b s).fault = s.fault := rfl

/-! `respond` -/

@[simp] theorem respond_params (c : CmdStatus) (r : BitVec 32) : (respond c r s).params = s.params := rfl
@[simp] theorem respond_inputs (c : CmdStatus) (r : BitVec 32) : (respond c r s).inputs = s.inputs := rfl
@[simp] theorem respond_clock (c : CmdStatus) (r : BitVec 32) : (respond c r s).clock = s.clock := rfl
@[simp] theorem respond_linkState (c : CmdStatus) (r : BitVec 32) : (respond c r s).linkState = s.linkState := rfl
@[simp] theorem respond_rxBuf (c : CmdStatus) (r : BitVec 32) : (respond c r s).rxBuf = s.rxBuf := rfl
@[simp] theorem respond_rxCount (c : CmdStatus) (r : BitVec 32) : (respond c r s).rxCount = s.rxCount := rfl
@[simp] theorem respond_prevFrame (c : CmdStatus) (r : BitVec 32) : (respond c r s).prevFrame = s.prevFrame := rfl
@[simp] theorem respond_txBuf (c : CmdStatus) (r : BitVec 32) : (respond c r s).txBuf = s.txBuf := rfl
@[simp] theorem respond_txIdx (c : CmdStatus) (r : BitVec 32) : (respond c r s).txIdx = s.txIdx := rfl
@[simp] theorem respond_lastUpdate (c : CmdStatus) (r : BitVec 32) : (respond c r s).lastUpdate = s.lastUpdate := rfl
@[simp] theorem respond_linkConnected (c : CmdStatus) (r : BitVec 32) : (respond c r s).linkConnected = s.linkConnected := rfl
@[simp] theorem respond_opMode (c : CmdStatus) (r : BitVec 32) : (respond c r s).opMode = s.opMode := rfl
@[simp] theorem respond_drive (c : CmdStatus) (r : BitVec 32) : (respond c r s).drive = s.drive := rfl
@[simp] theorem respond_ledStatus (c : CmdStatus) (r : BitVec 32) : (respond c r s).ledStatus = s.ledStatus := rfl
@[simp] theorem respond_ledPhase (c : CmdStatus) (r : BitVec 32) : (respond c r s).ledPhase = s.ledPhase := rfl
@[simp] theorem respond_gameState (c : CmdStatus) (r : BitVec 32) : (respond c r s).gameState = s.gameState := rfl
@[simp] theorem respond_targetLaps (c : CmdStatus) (r : BitVec 32) : (respond c r s).targetLaps = s.targetLaps := rfl
@[simp] theorem respond_activeCarCount (c : CmdStatus) (r : BitVec 32) : (respond c r s).activeCarCount = s.activeCarCount := rfl
@[simp] theorem respond_finishedCarCount (c : CmdStatus) (r : BitVec 32) : (respond c r s).finishedCarCount = s.finishedCarCount := rfl
@[simp] theorem respond_gameTime (c : CmdStatus) (r : BitVec 32) : (respond c r s).gameTime = s.gameTime := rfl
@[simp] theorem respond_positions (c : CmdStatus) (r : BitVec 32) : (respond c r s).positions = s.positions := rfl
@[simp] theorem respond_nextUpdate (c : CmdStatus) (r : BitVec 32) : (respond c r s).nextUpdate = s.nextUpdate := rfl
@[simp] theorem respond_cars (c : CmdStatus) (r : BitVec 32) : (respond c r s).cars = s.cars := rfl
@[simp] theorem respond_conn (c : CmdStatus) (r : BitVec 32) : (respond c r s).conn = s.conn := rfl
@[simp] theorem respond_bindStart (c : CmdStatus) (r : BitVec 32) : (respond c r s).bindStart = s.bindStart := rfl
@[simp] theorem respond_bindTarget (c : CmdStatus) (r : BitVec 32) : (respond c r s).bindTarget = s.bindTarget := rfl
@[simp] theorem respond_finishPending (c : CmdStatus) (r : BitVec 32) : (respond c r s).finishPending = s.finishPending := rfl
@[simp] theorem respond_finishDeadline (c : CmdStatus) (r : BitVec 32) : (respond c r s).finishDeadline = s.finishDeadline := rfl
@[simp] theorem respond_cmdStatus (c : CmdStatus) (r : BitVec 32) : (respond c r s).cmdStatus = c := rfl
@[simp] theorem respond_cmdResult (c : CmdStatus) (r : BitVec 32) : (respond c r s).cmdResult = r := rfl
@[simp] theorem respond_eventQ (c : CmdStatus) (r : BitVec 32) : (respond c r s).eventQ = s.eventQ := rfl
@[simp] theorem respond_diagLog (c : CmdStatus) (r : BitVec 32) : (respond c r s).diagLog = s.diagLog := rfl
@[simp] theorem respond_txOut (c : CmdStatus) (r : BitVec 32) : (respond c r s).txOut = s.txOut := rfl
@[simp] theorem respond_fault (c : CmdStatus) (r : BitVec 32) : (respond c r s).fault = s.fault := rfl

/-! `driveModify` -/

@[simp] theorem driveModify_params (i : Slot) (g : Byte → Byte) : (driveModify i g s).params = s.params := rfl
@[simp] theorem driveModify_inputs (i : Slot) (g : Byte → Byte) : (driveModify i g s).inputs = s.inputs := rfl
@[simp] theorem driveModify_clock (i : Slot) (g : Byte → Byte) : (driveModify i g s).clock = s.clock := rfl
@[simp] theorem driveModify_linkState (i : Slot) (g : Byte → Byte) : (driveModify i g s).linkState = s.linkState := rfl
@[simp] theorem driveModify_rxBuf (i : Slot) (g : Byte → Byte) : (driveModify i g s).rxBuf = s.rxBuf := rfl
@[simp] theorem driveModify_rxCount (i : Slot) (g : Byte → Byte) : (driveModify i g s).rxCount = s.rxCount := rfl
@[simp] theorem driveModify_prevFrame (i : Slot) (g : Byte → Byte) : (driveModify i g s).prevFrame = s.prevFrame := rfl
@[simp] theorem driveModify_txBuf (i : Slot) (g : Byte → Byte) : (driveModify i g s).txBuf = s.txBuf := rfl
@[simp] theorem driveModify_txIdx (i : Slot) (g : Byte → Byte) : (driveModify i g s).txIdx = s.txIdx := rfl
@[simp] theorem driveModify_lastUpdate (i : Slot) (g : Byte → Byte) : (driveModify i g s).lastUpdate = s.lastUpdate := rfl
@[simp] theorem driveModify_linkConnected (i : Slot) (g : Byte → Byte) : (driveModify i g s).linkConnected = s.linkConnected := rfl
@[simp] theorem driveModify_opMode (i : Slot) (g : Byte → Byte) : (driveModify i g s).opMode = s.opMode := rfl
@[simp] theorem driveModify_drive (i : Slot) (g : Byte → Byte) : (driveModify i g s).drive = s.drive.set i (~~~ g (~~~ s.drive[i])) := rfl
@[simp] theorem driveModify_ledStatus (i : Slot) (g : Byte → Byte) : (driveModify i g s).ledStatus = s.ledStatus := rfl
@[simp] theorem driveModify_ledPhase (i : Slot) (g : Byte → Byte) : (driveModify i g s).ledPhase = s.ledPhase := rfl
@[simp] theorem driveModify_gameState (i : Slot) (g : Byte → Byte) : (driveModify i g s).gameState = s.gameState := rfl
@[simp] theorem driveModify_targetLaps (i : Slot) (g : Byte → Byte) : (driveModify i g s).targetLaps = s.targetLaps := rfl
@[simp] theorem driveModify_activeCarCount (i : Slot) (g : Byte → Byte) : (driveModify i g s).activeCarCount = s.activeCarCount := rfl
@[simp] theorem driveModify_finishedCarCount (i : Slot) (g : Byte → Byte) : (driveModify i g s).finishedCarCount = s.finishedCarCount := rfl
@[simp] theorem driveModify_gameTime (i : Slot) (g : Byte → Byte) : (driveModify i g s).gameTime = s.gameTime := rfl
@[simp] theorem driveModify_positions (i : Slot) (g : Byte → Byte) : (driveModify i g s).positions = s.positions := rfl
@[simp] theorem driveModify_nextUpdate (i : Slot) (g : Byte → Byte) : (driveModify i g s).nextUpdate = s.nextUpdate := rfl
@[simp] theorem driveModify_cars (i : Slot) (g : Byte → Byte) : (driveModify i g s).cars = s.cars := rfl
@[simp] theorem driveModify_conn (i : Slot) (g : Byte → Byte) : (driveModify i g s).conn = s.conn := rfl
@[simp] theorem driveModify_bindStart (i : Slot) (g : Byte → Byte) : (driveModify i g s).bindStart = s.bindStart := rfl
@[simp] theorem driveModify_bindTarget (i : Slot) (g : Byte → Byte) : (driveModify i g s).bindTarget = s.bindTarget := rfl
@[simp] theorem driveModify_finishPending (i : Slot) (g : Byte → Byte) : (driveModify i g s).finishPending = s.finishPending := rfl
@[simp] theorem driveModify_finishDeadline (i : Slot) (g : Byte → Byte) : (driveModify i g s).finishDeadline = s.finishDeadline := rfl
@[simp] theorem driveModify_cmdStatus (i : Slot) (g : Byte → Byte) : (driveModify i g s).cmdStatus = s.cmdStatus := rfl
@[simp] theorem driveModify_cmdResult (i : Slot) (g : Byte → Byte) : (driveModify i g s).cmdResult = s.cmdResult := rfl
@[simp] theorem driveModify_eventQ (i : Slot) (g : Byte → Byte) : (driveModify i g s).eventQ = s.eventQ := rfl
@[simp] theorem driveModify_diagLog (i : Slot) (g : Byte → Byte) : (driveModify i g s).diagLog = s.diagLog := rfl
@[simp] theorem driveModify_txOut (i : Slot) (g : Byte → Byte) : (driveModify i g s).txOut = s.txOut := rfl
@[simp] theorem driveModify_fault (i : Slot) (g : Byte → Byte) : (driveModify i g s).fault = s.fault := rfl

/-! `updateCar` -/

@[simp] theorem updateCar_params (i : Slot) (g : CarState → CarState) : (updateCar i g s).params = s.params := rfl
@[simp] theorem updateCar_inputs (i : Slot) (g : CarState → CarState) : (updateCar i g s).inputs = s.inputs := rfl
@[simp] theorem updateCar_clock (i : Slot) (g : CarState → CarState) : (updateCar i g s).clock = s.clock := rfl
@[simp] theorem updateCar_linkState (i : Slot) (g : CarState → CarState) : (updateCar i g s).linkState = s.linkState := rfl
@[simp] theorem updateCar_rxBuf (i : Slot) (g : CarState → CarState) : (updateCar i g s).rxBuf = s.rxBuf := rfl
@[simp] theorem updateCar_rxCount (i : Slot) (g : CarState → CarState) : (updateCar i g s).rxCount = s.rxCount := rfl
@[simp] theorem updateCar_prevFrame (i : Slot) (g : CarState → CarState) : (updateCar i g s).prevFrame = s.prevFrame := rfl
@[simp] theorem updateCar_txBuf (i : Slot) (g : CarState → CarState) : (updateCar i g s).txBuf = s.txBuf := rfl
@[simp] theorem updateCar_txIdx (i : Slot) (g : CarState → CarState) : (updateCar i g s).txIdx = s.txIdx := rfl
@[simp] theorem updateCar_lastUpdate (i : Slot) (g : CarState → CarState) : (updateCar i g s).lastUpdate = s.lastUpdate := rfl
@[simp] theorem updateCar_linkConnected (i : Slot) (g : CarState → CarState) : (updateCar i g s).linkConnected = s.linkConnected := rfl
@[simp] theorem updateCar_opMode (i : Slot) (g : CarState → CarState) : (updateCar i g s).opMode = s.opMode := rfl
@[simp] theorem updateCar_drive (i : Slot) (g : CarState → CarState) : (updateCar i g s).drive = s.drive := rfl
@[simp] theorem updateCar_ledStatus (i : Slot) (g : CarState → CarState) : (updateCar i g s).ledStatus = s.ledStatus := rfl
@[simp] theorem updateCar_ledPhase (i : Slot) (g : CarState → CarState) : (updateCar i g s).ledPhase = s.ledPhase := rfl
@[simp] theorem updateCar_gameState (i : Slot) (g : CarState → CarState) : (updateCar i g s).gameState = s.gameState := rfl
@[simp] theorem updateCar_targetLaps (i : Slot) (g : CarState → CarState) : (updateCar i g s).targetLaps = s.targetLaps := rfl
@[simp] theorem updateCar_activeCarCount (i : Slot) (g : CarState → CarState) : (updateCar i g s).activeCarCount = s.activeCarCount := rfl
@[simp] theorem updateCar_finishedCarCount (i : Slot) (g : CarState → CarState) : (updateCar i g s).finishedCarCount = s.finishedCarCount := rfl
@[simp] theorem updateCar_gameTime (i : Slot) (g : CarState → CarState) : (updateCar i g s).gameTime = s.gameTime := rfl
@[simp] theorem updateCar_positions (i : Slot) (g : CarState → CarState) : (updateCar i g s).positions = s.positions := rfl
@[simp] theorem updateCar_nextUpdate (i : Slot) (g : CarState → CarState) : (updateCar i g s).nextUpdate = s.nextUpdate := rfl
@[simp] theorem updateCar_cars (i : Slot) (g : CarState → CarState) : (updateCar i g s).cars = s.cars.set i (g s.cars[i]) := rfl
@[simp] theorem updateCar_conn (i : Slot) (g : CarState → CarState) : (updateCar i g s).conn = s.conn := rfl
@[simp] theorem updateCar_bindStart (i : Slot) (g : CarState → CarState) : (updateCar i g s).bindStart = s.bindStart := rfl
@[simp] theorem updateCar_bindTarget (i : Slot) (g : CarState → CarState) : (updateCar i g s).bindTarget = s.bindTarget := rfl
@[simp] theorem updateCar_finishPending (i : Slot) (g : CarState → CarState) : (updateCar i g s).finishPending = s.finishPending := rfl
@[simp] theorem updateCar_finishDeadline (i : Slot) (g : CarState → CarState) : (updateCar i g s).finishDeadline = s.finishDeadline := rfl
@[simp] theorem updateCar_cmdStatus (i : Slot) (g : CarState → CarState) : (updateCar i g s).cmdStatus = s.cmdStatus := rfl
@[simp] theorem updateCar_cmdResult (i : Slot) (g : CarState → CarState) : (updateCar i g s).cmdResult = s.cmdResult := rfl
@[simp] theorem updateCar_eventQ (i : Slot) (g : CarState → CarState) : (updateCar i g s).eventQ = s.eventQ := rfl
@[simp] theorem updateCar_diagLog (i : Slot) (g : CarState → CarState) : (updateCar i g s).diagLog = s.diagLog := rfl
@[simp] theorem updateCar_txOut (i : Slot) (g : CarState → CarState) : (updateCar i g s).txOut = s.txOut := rfl
@[simp] theorem updateCar_fault (i : Slot) (g : CarState → CarState) : (updateCar i g s).fault = s.fault := rfl

/-! `resetRaceData` -/

@[simp] theorem resetRaceData_params : (resetRaceData s).params = s.params := rfl
@[simp] theorem resetRaceData_inputs : (resetRaceData s).inputs = s.inputs := rfl
@[simp] theorem resetRaceData_clock : (resetRaceData s).clock = s.clock := rfl
@[simp] theorem resetRaceData_linkState : (resetRaceData s).linkState = s.linkState := rfl
@[simp] theorem resetRaceData_rxBuf : (resetRaceData s).rxBuf = s.rxBuf := rfl
@[simp] theorem resetRaceData_rxCount : (resetRaceData s).rxCount = s.rxCount := rfl
@[simp] theorem resetRaceData_prevFrame : (resetRaceData s).prevFrame = s.prevFrame := rfl
@[simp] theorem resetRaceData_txBuf : (resetRaceData s).txBuf = s.txBuf := rfl
@[simp] theorem resetRaceData_txIdx : (resetRaceData s).txIdx = s.txIdx := rfl
@[simp] theorem resetRaceData_lastUpdate : (resetRaceData s).lastUpdate = s.lastUpdate := rfl
@[simp] theorem resetRaceData_linkConnected : (resetRaceData s).linkConnected = s.linkConnected := rfl
@[simp] theorem resetRaceData_opMode : (resetRaceData s).opMode = s.opMode := rfl
@[simp] theorem resetRaceData_drive : (resetRaceData s).drive = s.drive := rfl
@[simp] theorem resetRaceData_ledStatus : (resetRaceData s).ledStatus = s.ledStatus := rfl
@[simp] theorem resetRaceData_ledPhase : (resetRaceData s).ledPhase = s.ledPhase := rfl
@[simp] theorem resetRaceData_gameState : (resetRaceData s).gameState = s.gameState := rfl
@[simp] theorem resetRaceData_targetLaps : (resetRaceData s).targetLaps = s.targetLaps := rfl
@[simp] theorem resetRaceData_activeCarCount : (resetRaceData s).activeCarCount = s.activeCarCount := rfl
@[simp] theorem resetRaceData_finishedCarCount : (resetRaceData s).finishedCarCount = 0 := rfl
@[simp] theorem resetRaceData_gameTime : (resetRaceData s).gameTime = s.gameTime := rfl
@[simp] theorem resetRaceData_positions : (resetRaceData s).positions = identityOrder := rfl
@[simp] theorem resetRaceData_nextUpdate : (resetRaceData s).nextUpdate = s.nextUpdate := rfl
@[simp] theorem resetRaceData_cars : (resetRaceData s).cars = Vector.ofFn fun i => { s.cars[i] with laps := 0, bestLapTime := 0, finished := false } := rfl
@[simp] theorem resetRaceData_conn : (resetRaceData s).conn = s.conn := rfl
@[simp] theorem resetRaceData_bindStart : (resetRaceData s).bindStart = s.bindStart := rfl
@[simp] theorem resetRaceData_bindTarget : (resetRaceData s).bindTarget = s.bindTarget := rfl
@[simp] theorem resetRaceData_finishPending : (resetRaceData s).finishPending = s.finishPending := rfl
@[simp] theorem resetRaceData_finishDeadline : (resetRaceData s).finishDeadline = s.finishDeadline := rfl
@[simp] theorem resetRaceData_cmdStatus : (resetRaceData s).cmdStatus = s.cmdStatus := rfl
@[simp] theorem resetRaceData_cmdResult : (resetRaceData s).cmdResult = s.cmdResult := rfl
@[simp] theorem resetRaceData_eventQ : (resetRaceData s).eventQ = s.eventQ := rfl
@[simp] theorem resetRaceData_diagLog : (resetRaceData s).diagLog = s.diagLog := rfl
@[simp] theorem resetRaceData_txOut : (resetRaceData s).txOut = s.txOut := rfl
@[simp] theorem resetRaceData_fault : (resetRaceData s).fault = s.fault := rfl

/-! `requestLedReset` -/

@[simp] theorem requestLedReset_params : (requestLedReset s).params = s.params := rfl
@[simp] theorem requestLedReset_inputs : (requestLedReset s).inputs = s.inputs := rfl
@[simp] theorem requestLedReset_clock : (requestLedReset s).clock = s.clock := rfl
@[simp] theorem requestLedReset_linkState : (requestLedReset s).linkState = s.linkState := rfl
@[simp] theorem requestLedReset_rxBuf : (requestLedReset s).rxBuf = s.rxBuf := rfl
@[simp] theorem requestLedReset_rxCount : (requestLedReset s).rxCount = s.rxCount := rfl
@[simp] theorem requestLedReset_prevFrame : (requestLedReset s).prevFrame = s.prevFrame := rfl
@[simp] theorem requestLedReset_txBuf : (requestLedReset s).txBuf = s.txBuf := rfl
@[simp] theorem requestLedReset_txIdx : (requestLedReset s).txIdx = s.txIdx := rfl
@[simp] theorem requestLedReset_lastUpdate : (requestLedReset s).lastUpdate = s.lastUpdate := rfl
@[simp] theorem requestLedReset_linkConnected : (requestLedReset s).linkConnected = s.linkConnected := rfl
@[simp] theorem requestLedReset_opMode : (requestLedReset s).opMode = s.opMode := rfl
@[simp] theorem requestLedReset_drive : (requestLedReset s).drive = s.drive := rfl
@[simp] theorem requestLedReset_ledStatus : (requestLedReset s).ledStatus = s.ledStatus := rfl
@[simp] theorem requestLedReset_ledPhase : (requestLedReset s).ledPhase = .cycle1 := rfl
@[simp] theorem requestLedReset_gameState : (requestLedReset s).gameState = s.gameState := rfl
@[simp] theorem requestLedReset_targetLaps : (requestLedReset s).targetLaps = s.targetLaps := rfl
@[simp] theorem requestLedReset_activeCarCount : (requestLedReset s).activeCarCount = s.activeCarCount := rfl
@[simp] theorem requestLedReset_finishedCarCount : (requestLedReset s).finishedCarCount = s.finishedCarCount := rfl
@[simp] theorem requestLedReset_gameTime : (requestLedReset s).gameTime = s.gameTime := rfl
@[simp] theorem requestLedReset_positions : (requestLedReset s).positions = s.positions := rfl
@[simp] theorem requestLedReset_nextUpdate : (requestLedReset s).nextUpdate = s.nextUpdate := rfl
@[simp] theorem requestLedReset_cars : (requestLedReset s).cars = s.cars := rfl
@[simp] theorem requestLedReset_conn : (requestLedReset s).conn = s.conn := rfl
@[simp] theorem requestLedReset_bindStart : (requestLedReset s).bindStart = s.bindStart := rfl
@[simp] theorem requestLedReset_bindTarget : (requestLedReset s).bindTarget = s.bindTarget := rfl
@[simp] theorem requestLedReset_finishPending : (requestLedReset s).finishPending = s.finishPending := rfl
@[simp] theorem requestLedReset_finishDeadline : (requestLedReset s).finishDeadline = s.finishDeadline := rfl
@[simp] theorem requestLedReset_cmdStatus : (requestLedReset s).cmdStatus = s.cmdStatus := rfl
@[simp] theorem requestLedReset_cmdResult : (requestLedReset s).cmdResult = s.cmdResult := rfl
@[simp] theorem requestLedReset_eventQ : (requestLedReset s).eventQ = s.eventQ := rfl
@[simp] theorem requestLedReset_diagLog : (requestLedReset s).diagLog = s.diagLog := rfl
@[simp] theorem requestLedReset_txOut : (requestLedReset s).txOut = s.txOut := rfl
@[simp] theorem requestLedReset_fault : (requestLedReset s).fault = s.fault := rfl

/-! `writeLed` -/

@[simp] theorem writeLed_params (b : Fin 8) (x : Bool) : (writeLed b x s).params = s.params := rfl
@[simp] theorem writeLed_inputs (b : Fin 8) (x : Bool) : (writeLed b x s).inputs = s.inputs := rfl
@[simp] theorem writeLed_clock (b : Fin 8) (x : Bool) : (writeLed b x s).clock = s.clock := rfl
@[simp] theorem writeLed_linkState (b : Fin 8) (x : Bool) : (writeLed b x s).linkState = s.linkState := rfl
@[simp] theorem writeLed_rxBuf (b : Fin 8) (x : Bool) : (writeLed b x s).rxBuf = s.rxBuf := rfl
@[simp] theorem writeLed_rxCount (b : Fin 8) (x : Bool) : (writeLed b x s).rxCount = s.rxCount := rfl
@[simp] theorem writeLed_prevFrame (b : Fin 8) (x : Bool) : (writeLed b x s).prevFrame = s.prevFrame := rfl
@[simp] theorem writeLed_txBuf (b : Fin 8) (x : Bool) : (writeLed b x s).txBuf = s.txBuf := rfl
@[simp] theorem writeLed_txIdx (b : Fin 8) (x : Bool) : (writeLed b x s).txIdx = s.txIdx := rfl
@[simp] theorem writeLed_lastUpdate (b : Fin 8) (x : Bool) : (writeLed b x s).lastUpdate = s.lastUpdate := rfl
@[simp] theorem writeLed_linkConnected (b : Fin 8) (x : Bool) : (writeLed b x s).linkConnected = s.linkConnected := rfl
@[simp] theorem writeLed_opMode (b : Fin 8) (x : Bool) : (writeLed b x s).opMode = s.opMode := rfl
@[simp] theorem writeLed_drive (b : Fin 8) (x : Bool) : (writeLed b x s).drive = s.drive := rfl
@[simp] theorem writeLed_ledStatus (b : Fin 8) (x : Bool) : (writeLed b x s).ledStatus = writeBit s.ledStatus b (x ^^ s.params.ledActiveLow) := rfl
@[simp] theorem writeLed_ledPhase (b : Fin 8) (x : Bool) : (writeLed b x s).ledPhase = s.ledPhase := rfl
@[simp] theorem writeLed_gameState (b : Fin 8) (x : Bool) : (writeLed b x s).gameState = s.gameState := rfl
@[simp] theorem writeLed_targetLaps (b : Fin 8) (x : Bool) : (writeLed b x s).targetLaps = s.targetLaps := rfl
@[simp] theorem writeLed_activeCarCount (b : Fin 8) (x : Bool) : (writeLed b x s).activeCarCount = s.activeCarCount := rfl
@[simp] theorem writeLed_finishedCarCount (b : Fin 8) (x : Bool) : (writeLed b x s).finishedCarCount = s.finishedCarCount := rfl
@[simp] theorem writeLed_gameTime (b : Fin 8) (x : Bool) : (writeLed b x s).gameTime = s.gameTime := rfl
@[simp] theorem writeLed_positions (b : Fin 8) (x : Bool) : (writeLed b x s).positions = s.positions := rfl
@[simp] theorem writeLed_nextUpdate (b : Fin 8) (x : Bool) : (writeLed b x s).nextUpdate = s.nextUpdate := rfl
@[simp] theorem writeLed_cars (b : Fin 8) (x : Bool) : (writeLed b x s).cars = s.cars := rfl
@[simp] theorem writeLed_conn (b : Fin 8) (x : Bool) : (writeLed b x s).conn = s.conn := rfl
@[simp] theorem writeLed_bindStart (b : Fin 8) (x : Bool) : (writeLed b x s).bindStart = s.bindStart := rfl
@[simp] theorem writeLed_bindTarget (b : Fin 8) (x : Bool) : (writeLed b x s).bindTarget = s.bindTarget := rfl
@[simp] theorem writeLed_finishPending (b : Fin 8) (x : Bool) : (writeLed b x s).finishPending = s.finishPending := rfl
@[simp] theorem writeLed_finishDeadline (b : Fin 8) (x : Bool) : (writeLed b x s).finishDeadline = s.finishDeadline := rfl
@[simp] theorem writeLed_cmdStatus (b : Fin 8) (x : Bool) : (writeLed b x s).cmdStatus = s.cmdStatus := rfl
@[simp] theorem writeLed_cmdResult (b : Fin 8) (x : Bool) : (writeLed b x s).cmdResult = s.cmdResult := rfl
@[simp] theorem writeLed_eventQ (b : Fin 8) (x : Bool) : (writeLed b x s).eventQ = s.eventQ := rfl
@[simp] theorem writeLed_diagLog (b : Fin 8) (x : Bool) : (writeLed b x s).diagLog = s.diagLog := rfl
@[simp] theorem writeLed_txOut (b : Fin 8) (x : Bool) : (writeLed b x s).txOut = s.txOut := rfl
@[simp] theorem writeLed_fault (b : Fin 8) (x : Bool) : (writeLed b x s).fault = s.fault := rfl

/-! `rank` -/

@[simp] theorem rank_params : (rank s).params = s.params := rfl
@[simp] theorem rank_inputs : (rank s).inputs = s.inputs := rfl
@[simp] theorem rank_clock : (rank s).clock = s.clock := rfl
@[simp] theorem rank_linkState : (rank s).linkState = s.linkState := rfl
@[simp] theorem rank_rxBuf : (rank s).rxBuf = s.rxBuf := rfl
@[simp] theorem rank_rxCount : (rank s).rxCount = s.rxCount := rfl
@[simp] theorem rank_prevFrame : (rank s).prevFrame = s.prevFrame := rfl
@[simp] theorem rank_txBuf : (rank s).txBuf = s.txBuf := rfl
@[simp] theorem rank_txIdx : (rank s).txIdx = s.txIdx := rfl
@[simp] theorem rank_lastUpdate : (rank s).lastUpdate = s.lastUpdate := rfl
@[simp] theorem rank_linkConnected : (rank s).linkConnected = s.linkConnected := rfl
@[simp] theorem rank_opMode : (rank s).opMode = s.opMode := rfl
@[simp] theorem rank_drive : (rank s).drive = s.drive := rfl
@[simp] theorem rank_ledStatus : (rank s).ledStatus = s.ledStatus := rfl
@[simp] theorem rank_ledPhase : (rank s).ledPhase = s.ledPhase := rfl
@[simp] theorem rank_gameState : (rank s).gameState = s.gameState := rfl
@[simp] theorem rank_targetLaps : (rank s).targetLaps = s.targetLaps := rfl
@[simp] theorem rank_activeCarCount : (rank s).activeCarCount = s.activeCarCount := rfl
@[simp] theorem rank_finishedCarCount : (rank s).finishedCarCount = s.finishedCarCount := rfl
@[simp] theorem rank_gameTime : (rank s).gameTime = s.gameTime := rfl
@[simp] theorem rank_positions : (rank s).positions = Vector.ofFn fun k => (rankedSlots s.cars).getD k.val k := rfl
@[simp] theorem rank_nextUpdate : (rank s).nextUpdate = s.nextUpdate := rfl
@[simp] theorem rank_cars : (rank s).cars = s.cars := rfl
@[simp] theorem rank_conn : (rank s).conn = s.conn := rfl
@[simp] theorem rank_bindStart : (rank s).bindStart = s.bindStart := rfl
@[simp] theorem rank_bindTarget : (rank s).bindTarget = s.bindTarget := rfl
@[simp] theorem rank_finishPending : (rank s).finishPending = s.finishPending := rfl
@[simp] theorem rank_finishDeadline : (rank s).finishDeadline = s.finishDeadline := rfl
@[simp] theorem rank_cmdStatus : (rank s).cmdStatus = s.cmdStatus := rfl
@[simp] theorem rank_cmdResult : (rank s).cmdResult = s.cmdResult := rfl
@[simp] theorem rank_eventQ : (rank s).eventQ = s.eventQ := rfl
@[simp] theorem rank_diagLog : (rank s).diagLog = s.diagLog := rfl
@[simp] theorem rank_txOut : (rank s).txOut = s.txOut := rfl
@[simp] theorem rank_fault : (rank s).fault = s.fault := rfl

/-! `scheduleFinish` -/

@[simp] theorem scheduleFinish_params : (scheduleFinish s).params = s.params := rfl
@[simp] theorem scheduleFinish_inputs : (scheduleFinish s).inputs = s.inputs := rfl
@[simp] theorem scheduleFinish_clock : (scheduleFinish s).clock = s.clock := rfl
@[simp] theorem scheduleFinish_linkState : (scheduleFinish s).linkState = s.linkState := rfl
@[simp] theorem scheduleFinish_rxBuf : (scheduleFinish s).rxBuf = s.rxBuf := rfl
@[simp] theorem scheduleFinish_rxCount : (scheduleFinish s).rxCount = s.rxCount := rfl
@[simp] theorem scheduleFinish_prevFrame : (scheduleFinish s).prevFrame = s.prevFrame := rfl
@[simp] theorem scheduleFinish_txBuf : (scheduleFinish s).txBuf = s.txBuf := rfl
@[simp] theorem scheduleFinish_txIdx : (scheduleFinish s).txIdx = s.txIdx := rfl
@[simp] theorem scheduleFinish_lastUpdate : (scheduleFinish s).lastUpdate = s.lastUpdate := rfl
@[simp] theorem scheduleFinish_linkConnected : (scheduleFinish s).linkConnected = s.linkConnected := rfl
@[simp] theorem scheduleFinish_opMode : (scheduleFinish s).opMode = s.opMode := rfl
@[simp] theorem scheduleFinish_drive : (scheduleFinish s).drive = s.drive := rfl
@[simp] theorem scheduleFinish_ledStatus : (scheduleFinish s).ledStatus = s.ledStatus := rfl
@[simp] theorem scheduleFinish_ledPhase : (scheduleFinish s).ledPhase = s.ledPhase := rfl
@[simp] theorem scheduleFinish_gameState : (scheduleFinish s).gameState = s.gameState := rfl
@[simp] theorem scheduleFinish_targetLaps : (scheduleFinish s).targetLaps = s.targetLaps := rfl
@[simp] theorem scheduleFinish_activeCarCount : (scheduleFinish s).activeCarCount = s.activeCarCount := rfl
@[simp] theorem scheduleFinish_finishedCarCount : (scheduleFinish s).finishedCarCount = s.finishedCarCount := rfl
@[simp] theorem scheduleFinish_gameTime : (scheduleFinish s).gameTime = s.gameTime := rfl
@[simp] theorem scheduleFinish_positions : (scheduleFinish s).positions = s.positions := rfl
@[simp] theorem scheduleFinish_nextUpdate : (scheduleFinish s).nextUpdate = s.nextUpdate := rfl
@[simp] theorem scheduleFinish_cars : (scheduleFinish s).cars = s.cars := rfl
@[simp] theorem scheduleFinish_conn : (scheduleFinish s).conn = s.conn := rfl
@[simp] theorem scheduleFinish_bindStart : (scheduleFinish s).bindStart = s.bindStart := rfl
@[simp] theorem scheduleFinish_bindTarget : (scheduleFinish s).bindTarget = s.bindTarget := rfl
@[simp] theorem scheduleFinish_finishPending : (scheduleFinish s).finishPending = true := rfl
@[simp] theorem scheduleFinish_finishDeadline : (scheduleFinish s).finishDeadline = s.clock + s.params.graceUs := rfl
@[simp] theorem scheduleFinish_cmdStatus : (scheduleFinish s).cmdStatus = s.cmdStatus := rfl
@[simp] theorem scheduleFinish_cmdResult : (scheduleFinish s).cmdResult = s.cmdResult := rfl
@[simp] theorem scheduleFinish_eventQ : (scheduleFinish s).eventQ = s.eventQ := rfl
@[simp] theorem scheduleFinish_diagLog : (scheduleFinish s).diagLog = s.diagLog := rfl
@[simp] theorem scheduleFinish_txOut : (scheduleFinish s).txOut = s.txOut := rfl
@[simp] theorem scheduleFinish_fault : (scheduleFinish s).fault = s.fault := rfl

/-! `storeRx` -/

@[simp] theorem storeRx_params (b : Byte) : (storeRx b s).params = s.params := rfl
@[simp] theorem storeRx_inputs (b : Byte) : (storeRx b s).inputs = s.inputs := rfl
@[simp] theorem storeRx_clock (b : Byte) : (storeRx b s).clock = s.clock := rfl
@[simp] theorem storeRx_linkState (b : Byte) : (storeRx b s).linkState = s.linkState := rfl
@[simp] theorem storeRx_rxBuf (b : Byte) : (storeRx b s).rxBuf = s.rxBuf.setIfInBounds s.rxCount.toNat b := rfl
@[simp] theorem storeRx_rxCount (b : Byte) : (storeRx b s).rxCount = s.rxCount + 1 := rfl
@[simp] theorem storeRx_prevFrame (b : Byte) : (storeRx b s).prevFrame = s.prevFrame := rfl
@[simp] theorem storeRx_txBuf (b : Byte) : (storeRx b s).txBuf = s.txBuf := rfl
@[simp] theorem storeRx_txIdx (b : Byte) : (storeRx b s).txIdx = s.txIdx := rfl
@[simp] theorem storeRx_lastUpdate (b : Byte) : (storeRx b s).lastUpdate = s.lastUpdate := rfl
@[simp] theorem storeRx_linkConnected (b : Byte) : (storeRx b s).linkConnected = s.linkConnected := rfl
@[simp] theorem storeRx_opMode (b : Byte) : (storeRx b s).opMode = s.opMode := rfl
@[simp] theorem storeRx_drive (b : Byte) : (storeRx b s).drive = s.drive := rfl
@[simp] theorem storeRx_ledStatus (b : Byte) : (storeRx b s).ledStatus = s.ledStatus := rfl
@[simp] theorem storeRx_ledPhase (b : Byte) : (storeRx b s).ledPhase = s.ledPhase := rfl
@[simp] theorem storeRx_gameState (b : Byte) : (storeRx b s).gameState = s.gameState := rfl
@[simp] theorem storeRx_targetLaps (b : Byte) : (storeRx b s).targetLaps = s.targetLaps := rfl
@[simp] theorem storeRx_activeCarCount (b : Byte) : (storeRx b s).activeCarCount = s.activeCarCount := rfl
@[simp] theorem storeRx_finishedCarCount (b : Byte) : (storeRx b s).finishedCarCount = s.finishedCarCount := rfl
@[simp] theorem storeRx_gameTime (b : Byte) : (storeRx b s).gameTime = s.gameTime := rfl
@[simp] theorem storeRx_positions (b : Byte) : (storeRx b s).positions = s.positions := rfl
@[simp] theorem storeRx_nextUpdate (b : Byte) : (storeRx b s).nextUpdate = s.nextUpdate := rfl
@[simp] theorem storeRx_cars (b : Byte) : (storeRx b s).cars = s.cars := rfl
@[simp] theorem storeRx_conn (b : Byte) : (storeRx b s).conn = s.conn := rfl
@[simp] theorem storeRx_bindStart (b : Byte) : (storeRx b s).bindStart = s.bindStart := rfl
@[simp] theorem storeRx_bindTarget (b : Byte) : (storeRx b s).bindTarget = s.bindTarget := rfl
@[simp] theorem storeRx_finishPending (b : Byte) : (storeRx b s).finishPending = s.finishPending := rfl
@[simp] theorem storeRx_finishDeadline (b : Byte) : (storeRx b s).finishDeadline = s.finishDeadline := rfl
@[simp] theorem storeRx_cmdStatus (b : Byte) : (storeRx b s).cmdStatus = s.cmdStatus := rfl
@[simp] theorem storeRx_cmdResult (b : Byte) : (storeRx b s).cmdResult = s.cmdResult := rfl
@[simp] theorem storeRx_eventQ (b : Byte) : (storeRx b s).eventQ = s.eventQ := rfl
@[simp] theorem storeRx_diagLog (b : Byte) : (storeRx b s).diagLog = s.diagLog := rfl
@[simp] theorem storeRx_txOut (b : Byte) : (storeRx b s).txOut = s.txOut := rfl
@[simp] theorem storeRx_fault (b : Byte) : (storeRx b s).fault = s.fault := rfl

/-! `writeComplete` -/

@[simp] theorem writeComplete_params : (writeComplete s).params = s.params := rfl
@[simp] theorem writeComplete_inputs : (writeComplete s).inputs = s.inputs := rfl
@[simp] theorem writeComplete_clock : (writeComplete s).clock = s.clock := rfl
@[simp] theorem writeComplete_linkState : (writeComplete s).linkState = .read := rfl
@[simp] theorem writeComplete_rxBuf : (writeComplete s).rxBuf = s.rxBuf := rfl
@[simp] theorem writeComplete_rxCount : (writeComplete s).rxCount = 0 := rfl
@[simp] theorem writeComplete_prevFrame : (writeComplete s).prevFrame = s.prevFrame := rfl
@[simp] theorem writeComplete_txBuf : (writeComplete s).txBuf = s.txBuf := rfl
@[simp] theorem writeComplete_txIdx : (writeComplete s).txIdx = 0 := rfl
@[simp] theorem writeComplete_lastUpdate : (writeComplete s).lastUpdate = s.lastUpdate := rfl
@[simp] theorem writeComplete_linkConnected : (writeComplete s).linkConnected = s.linkConnected := rfl
@[simp] theorem writeComplete_opMode : (writeComplete s).opMode = s.opMode := rfl
@[simp] theorem writeComplete_drive : (writeComplete s).drive = s.drive := rfl
@[simp] theorem writeComplete_ledStatus : (writeComplete s).ledStatus = s.ledStatus := rfl
@[simp] theorem writeComplete_ledPhase : (writeComplete s).ledPhase = s.ledPhase := rfl
@[simp] theorem writeComplete_gameState : (writeComplete s).gameState = s.gameState := rfl
@[simp] theorem writeComplete_targetLaps : (writeComplete s).targetLaps = s.targetLaps := rfl
@[simp] theorem writeComplete_activeCarCount : (writeComplete s).activeCarCount = s.activeCarCount := rfl
@[simp] theorem writeComplete_finishedCarCount : (writeComplete s).finishedCarCount = s.finishedCarCount := rfl
@[simp] theorem writeComplete_gameTime : (writeComplete s).gameTime = s.gameTime := rfl
@[simp] theorem writeComplete_positions : (writeComplete s).positions = s.positions := rfl
@[simp] theorem writeComplete_nextUpdate : (writeComplete s).nextUpdate = s.nextUpdate := rfl
@[simp] theorem writeComplete_cars : (writeComplete s).cars = s.cars := rfl
@[simp] theorem writeComplete_conn : (writeComplete s).conn = s.conn := rfl
@[simp] theorem writeComplete_bindStart : (writeComplete s).bindStart = s.bindStart := rfl
@[simp] theorem writeComplete_bindTarget : (writeComplete s).bindTarget = s.bindTarget := rfl
@[simp] theorem writeComplete_finishPending : (writeComplete s).finishPending = s.finishPending := rfl
@[simp] theorem writeComplete_finishDeadline : (writeComplete s).finishDeadline = s.finishDeadline := rfl
@[simp] theorem writeComplete_cmdStatus : (writeComplete s).cmdStatus = s.cmdStatus := rfl
@[simp] theorem writeComplete_cmdResult : (writeComplete s).cmdResult = s.cmdResult := rfl
@[simp] theorem writeComplete_eventQ : (writeComplete s).eventQ = s.eventQ := rfl
@[simp] theorem writeComplete_diagLog : (writeComplete s).diagLog = s.diagLog := rfl
@[simp] theorem writeComplete_txOut : (writeComplete s).txOut = s.txOut := rfl
@[simp] theorem writeComplete_fault : (writeComplete s).fault = s.fault := rfl

/-! `activate` -/

@[simp] theorem activate_params (mask : BitVec 8) : (activate mask s).params = s.params := rfl
@[simp] theorem activate_inputs (mask : BitVec 8) : (activate mask s).inputs = s.inputs := rfl
@[simp] theorem activate_clock (mask : BitVec 8) : (activate mask s).clock = s.clock := rfl
@[simp] theorem activate_linkState (mask : BitVec 8) : (activate mask s).linkState = s.linkState := rfl
@[simp] theorem activate_rxBuf (mask : BitVec 8) : (activate mask s).rxBuf = s.rxBuf := rfl
@[simp] theorem activate_rxCount (mask : BitVec 8) : (activate mask s).rxCount = s.rxCount := rfl
@[simp] theorem activate_prevFrame (mask : BitVec 8) : (activate mask s).prevFrame = s.prevFrame := rfl
@[simp] theorem activate_txBuf (mask : BitVec 8) : (activate mask s).txBuf = s.txBuf := rfl
@[simp] theorem activate_txIdx (mask : BitVec 8) : (activate mask s).txIdx = s.txIdx := rfl
@[simp] theorem activate_lastUpdate (mask : BitVec 8) : (activate mask s).lastUpdate = s.lastUpdate := rfl
@[simp] theorem activate_linkConnected (mask : BitVec 8) : (activate mask s).linkConnected = s.linkConnected := rfl
@[simp] theorem activate_opMode (mask : BitVec 8) : (activate mask s).opMode = s.opMode := rfl
@[simp] theorem activate_drive (mask : BitVec 8) : (activate mask s).drive = s.drive := rfl
@[simp] theorem activate_ledStatus (mask : BitVec 8) : (activate mask s).ledStatus = s.ledStatus := rfl
@[simp] theorem activate_ledPhase (mask : BitVec 8) : (activate mask s).ledPhase = s.ledPhase := rfl
@[simp] theorem activate_gameState (mask : BitVec 8) : (activate mask s).gameState = s.gameState := rfl
@[simp] theorem activate_targetLaps (mask : BitVec 8) : (activate mask s).targetLaps = s.targetLaps := rfl
@[simp] theorem activate_activeCarCount (mask : BitVec 8) : (activate mask s).activeCarCount = maskPopcount mask := rfl
@[simp] theorem activate_finishedCarCount (mask : BitVec 8) : (activate mask s).finishedCarCount = s.finishedCarCount := rfl
@[simp] theorem activate_gameTime (mask : BitVec 8) : (activate mask s).gameTime = s.gameTime := rfl
@[simp] theorem activate_positions (mask : BitVec 8) : (activate mask s).positions = s.positions := rfl
@[simp] theorem activate_nextUpdate (mask : BitVec 8) : (activate mask s).nextUpdate = s.nextUpdate := rfl
@[simp] theorem activate_cars (mask : BitVec 8) : (activate mask s).cars = Vector.ofFn fun i => { s.cars[i] with active := mask.getLsbD i.val } := rfl
@[simp] theorem activate_conn (mask : BitVec 8) : (activate mask s).conn = s.conn := rfl
@[simp] theorem activate_bindStart (mask : BitVec 8) : (activate mask s).bindStart = s.bindStart := rfl
@[simp] theorem activate_bindTarget (mask : BitVec 8) : (activate mask s).bindTarget = s.bindTarget := rfl
@[simp] theorem activate_finishPending (mask : BitVec 8) : (activate mask s).finishPending = s.finishPending := rfl
@[simp] theorem activate_finishDeadline (mask : BitVec 8) : (activate mask s).finishDeadline = s.finishDeadline := rfl
@[simp] theorem activate_cmdStatus (mask : BitVec 8) : (activate mask s).cmdStatus = s.cmdStatus := rfl
@[simp] theorem activate_cmdResult (mask : BitVec 8) : (activate mask s).cmdResult = s.cmdResult := rfl
@[simp] theorem activate_eventQ (mask : BitVec 8) : (activate mask s).eventQ = s.eventQ := rfl
@[simp] theorem activate_diagLog (mask : BitVec 8) : (activate mask s).diagLog = s.diagLog := rfl
@[simp] theorem activate_txOut (mask : BitVec 8) : (activate mask s).txOut = s.txOut := rfl
@[simp] theorem activate_fault (mask : BitVec 8) : (activate mask s).fault = s.fault := rfl

end Sys2Proof.Machine
end

