-- ==== Sys2Proof/Laws/Frames.lean ====
section
/-! SUPPORT. The frames of the shared operations and of the decode path: every field an operation does not write, one lemma
per field. -/

namespace Sys2Proof.Machine

variable (s : State)

/-- A loop over the slots keeps what each of its turns keeps. -/
theorem forSlots_preserves {α : Type} (F : State → α) (f : Slot → State → State) (h : ∀ i u, F (f i u) = F u) :
    F (forSlots f s) = F s := by
  simp only [forSlots, allSlots, List.foldl_cons, List.foldl_nil, h]

/-! `enqueue` -/

@[simp] theorem enqueue_params (e : Event) : (enqueue e s).params = s.params := by unfold enqueue; split <;> rfl
@[simp] theorem enqueue_inputs (e : Event) : (enqueue e s).inputs = s.inputs := by unfold enqueue; split <;> rfl
@[simp] theorem enqueue_clock (e : Event) : (enqueue e s).clock = s.clock := by unfold enqueue; split <;> rfl
@[simp] theorem enqueue_linkState (e : Event) : (enqueue e s).linkState = s.linkState := by unfold enqueue; split <;> rfl
@[simp] theorem enqueue_rxBuf (e : Event) : (enqueue e s).rxBuf = s.rxBuf := by unfold enqueue; split <;> rfl
@[simp] theorem enqueue_rxCount (e : Event) : (enqueue e s).rxCount = s.rxCount := by unfold enqueue; split <;> rfl
@[simp] theorem enqueue_prevFrame (e : Event) : (enqueue e s).prevFrame = s.prevFrame := by unfold enqueue; split <;> rfl
@[simp] theorem enqueue_txBuf (e : Event) : (enqueue e s).txBuf = s.txBuf := by unfold enqueue; split <;> rfl
@[simp] theorem enqueue_txIdx (e : Event) : (enqueue e s).txIdx = s.txIdx := by unfold enqueue; split <;> rfl
@[simp] theorem enqueue_lastUpdate (e : Event) : (enqueue e s).lastUpdate = s.lastUpdate := by unfold enqueue; split <;> rfl
@[simp] theorem enqueue_linkConnected (e : Event) : (enqueue e s).linkConnected = s.linkConnected := by unfold enqueue; split <;> rfl
@[simp] theorem enqueue_opMode (e : Event) : (enqueue e s).opMode = s.opMode := by unfold enqueue; split <;> rfl
@[simp] theorem enqueue_drive (e : Event) : (enqueue e s).drive = s.drive := by unfold enqueue; split <;> rfl
@[simp] theorem enqueue_ledStatus (e : Event) : (enqueue e s).ledStatus = s.ledStatus := by unfold enqueue; split <;> rfl
@[simp] theorem enqueue_ledPhase (e : Event) : (enqueue e s).ledPhase = s.ledPhase := by unfold enqueue; split <;> rfl
@[simp] theorem enqueue_gameState (e : Event) : (enqueue e s).gameState = s.gameState := by unfold enqueue; split <;> rfl
@[simp] theorem enqueue_targetLaps (e : Event) : (enqueue e s).targetLaps = s.targetLaps := by unfold enqueue; split <;> rfl
@[simp] theorem enqueue_activeCarCount (e : Event) : (enqueue e s).activeCarCount = s.activeCarCount := by unfold enqueue; split <;> rfl
@[simp] theorem enqueue_finishedCarCount (e : Event) : (enqueue e s).finishedCarCount = s.finishedCarCount := by unfold enqueue; split <;> rfl
@[simp] theorem enqueue_gameTime (e : Event) : (enqueue e s).gameTime = s.gameTime := by unfold enqueue; split <;> rfl
@[simp] theorem enqueue_positions (e : Event) : (enqueue e s).positions = s.positions := by unfold enqueue; split <;> rfl
@[simp] theorem enqueue_nextUpdate (e : Event) : (enqueue e s).nextUpdate = s.nextUpdate := by unfold enqueue; split <;> rfl
@[simp] theorem enqueue_cars (e : Event) : (enqueue e s).cars = s.cars := by unfold enqueue; split <;> rfl
@[simp] theorem enqueue_conn (e : Event) : (enqueue e s).conn = s.conn := by unfold enqueue; split <;> rfl
@[simp] theorem enqueue_bindStart (e : Event) : (enqueue e s).bindStart = s.bindStart := by unfold enqueue; split <;> rfl
@[simp] theorem enqueue_bindTarget (e : Event) : (enqueue e s).bindTarget = s.bindTarget := by unfold enqueue; split <;> rfl
@[simp] theorem enqueue_finishPending (e : Event) : (enqueue e s).finishPending = s.finishPending := by unfold enqueue; split <;> rfl
@[simp] theorem enqueue_finishDeadline (e : Event) : (enqueue e s).finishDeadline = s.finishDeadline := by unfold enqueue; split <;> rfl
@[simp] theorem enqueue_cmdStatus (e : Event) : (enqueue e s).cmdStatus = s.cmdStatus := by unfold enqueue; split <;> rfl
@[simp] theorem enqueue_cmdResult (e : Event) : (enqueue e s).cmdResult = s.cmdResult := by unfold enqueue; split <;> rfl
@[simp] theorem enqueue_diagLog (e : Event) : (enqueue e s).diagLog = s.diagLog := by unfold enqueue; split <;> rfl
@[simp] theorem enqueue_txOut (e : Event) : (enqueue e s).txOut = s.txOut := by unfold enqueue; split <;> rfl

/-! `cutPower` -/

@[simp] theorem cutPower_params : (cutPower s).params = s.params := by exact forSlots_preserves s (·.params) _ fun i u => rfl
@[simp] theorem cutPower_inputs : (cutPower s).inputs = s.inputs := by exact forSlots_preserves s (·.inputs) _ fun i u => rfl
@[simp] theorem cutPower_clock : (cutPower s).clock = s.clock := by exact forSlots_preserves s (·.clock) _ fun i u => rfl
@[simp] theorem cutPower_linkState : (cutPower s).linkState = s.linkState := by exact forSlots_preserves s (·.linkState) _ fun i u => rfl
@[simp] theorem cutPower_rxBuf : (cutPower s).rxBuf = s.rxBuf := by exact forSlots_preserves s (·.rxBuf) _ fun i u => rfl
@[simp] theorem cutPower_rxCount : (cutPower s).rxCount = s.rxCount := by exact forSlots_preserves s (·.rxCount) _ fun i u => rfl
@[simp] theorem cutPower_prevFrame : (cutPower s).prevFrame = s.prevFrame := by exact forSlots_preserves s (·.prevFrame) _ fun i u => rfl
@[simp] theorem cutPower_txBuf : (cutPower s).txBuf = s.txBuf := by exact forSlots_preserves s (·.txBuf) _ fun i u => rfl
@[simp] theorem cutPower_txIdx : (cutPower s).txIdx = s.txIdx := by exact forSlots_preserves s (·.txIdx) _ fun i u => rfl
@[simp] theorem cutPower_lastUpdate : (cutPower s).lastUpdate = s.lastUpdate := by exact forSlots_preserves s (·.lastUpdate) _ fun i u => rfl
@[simp] theorem cutPower_linkConnected : (cutPower s).linkConnected = s.linkConnected := by
  exact forSlots_preserves s (·.linkConnected) _ fun i u => rfl
@[simp] theorem cutPower_opMode : (cutPower s).opMode = s.opMode := by exact forSlots_preserves s (·.opMode) _ fun i u => rfl
@[simp] theorem cutPower_ledStatus : (cutPower s).ledStatus = s.ledStatus := by exact forSlots_preserves s (·.ledStatus) _ fun i u => rfl
@[simp] theorem cutPower_ledPhase : (cutPower s).ledPhase = s.ledPhase := by exact forSlots_preserves s (·.ledPhase) _ fun i u => rfl
@[simp] theorem cutPower_gameState : (cutPower s).gameState = s.gameState := by exact forSlots_preserves s (·.gameState) _ fun i u => rfl
@[simp] theorem cutPower_targetLaps : (cutPower s).targetLaps = s.targetLaps := by exact forSlots_preserves s (·.targetLaps) _ fun i u => rfl
@[simp] theorem cutPower_activeCarCount : (cutPower s).activeCarCount = s.activeCarCount := by
  exact forSlots_preserves s (·.activeCarCount) _ fun i u => rfl
@[simp] theorem cutPower_finishedCarCount : (cutPower s).finishedCarCount = s.finishedCarCount := by
  exact forSlots_preserves s (·.finishedCarCount) _ fun i u => rfl
@[simp] theorem cutPower_gameTime : (cutPower s).gameTime = s.gameTime := by exact forSlots_preserves s (·.gameTime) _ fun i u => rfl
@[simp] theorem cutPower_positions : (cutPower s).positions = s.positions := by exact forSlots_preserves s (·.positions) _ fun i u => rfl
@[simp] theorem cutPower_nextUpdate : (cutPower s).nextUpdate = s.nextUpdate := by exact forSlots_preserves s (·.nextUpdate) _ fun i u => rfl
@[simp] theorem cutPower_cars : (cutPower s).cars = s.cars := by exact forSlots_preserves s (·.cars) _ fun i u => rfl
@[simp] theorem cutPower_conn : (cutPower s).conn = s.conn := by exact forSlots_preserves s (·.conn) _ fun i u => rfl
@[simp] theorem cutPower_bindStart : (cutPower s).bindStart = s.bindStart := by exact forSlots_preserves s (·.bindStart) _ fun i u => rfl
@[simp] theorem cutPower_bindTarget : (cutPower s).bindTarget = s.bindTarget := by exact forSlots_preserves s (·.bindTarget) _ fun i u => rfl
@[simp] theorem cutPower_finishPending : (cutPower s).finishPending = s.finishPending := by
  exact forSlots_preserves s (·.finishPending) _ fun i u => rfl
@[simp] theorem cutPower_finishDeadline : (cutPower s).finishDeadline = s.finishDeadline := by
  exact forSlots_preserves s (·.finishDeadline) _ fun i u => rfl
@[simp] theorem cutPower_cmdStatus : (cutPower s).cmdStatus = s.cmdStatus := by exact forSlots_preserves s (·.cmdStatus) _ fun i u => rfl
@[simp] theorem cutPower_cmdResult : (cutPower s).cmdResult = s.cmdResult := by exact forSlots_preserves s (·.cmdResult) _ fun i u => rfl
@[simp] theorem cutPower_eventQ : (cutPower s).eventQ = s.eventQ := by exact forSlots_preserves s (·.eventQ) _ fun i u => rfl
@[simp] theorem cutPower_diagLog : (cutPower s).diagLog = s.diagLog := by exact forSlots_preserves s (·.diagLog) _ fun i u => rfl
@[simp] theorem cutPower_txOut : (cutPower s).txOut = s.txOut := by exact forSlots_preserves s (·.txOut) _ fun i u => rfl
@[simp] theorem cutPower_fault : (cutPower s).fault = s.fault := by exact forSlots_preserves s (·.fault) _ fun i u => rfl

/-! `setPower` -/

@[simp] theorem setPower_params (i : Slot) (p : Byte) : (setPower i p s).params = s.params := rfl
@[simp] theorem setPower_inputs (i : Slot) (p : Byte) : (setPower i p s).inputs = s.inputs := rfl
@[simp] theorem setPower_clock (i : Slot) (p : Byte) : (setPower i p s).clock = s.clock := rfl
@[simp] theorem setPower_linkState (i : Slot) (p : Byte) : (setPower i p s).linkState = s.linkState := rfl
@[simp] theorem setPower_rxBuf (i : Slot) (p : Byte) : (setPower i p s).rxBuf = s.rxBuf := rfl
@[simp] theorem setPower_rxCount (i : Slot) (p : Byte) : (setPower i p s).rxCount = s.rxCount := rfl
@[simp] theorem setPower_prevFrame (i : Slot) (p : Byte) : (setPower i p s).prevFrame = s.prevFrame := rfl
@[simp] theorem setPower_txBuf (i : Slot) (p : Byte) : (setPower i p s).txBuf = s.txBuf := rfl
@[simp] theorem setPower_txIdx (i : Slot) (p : Byte) : (setPower i p s).txIdx = s.txIdx := rfl
@[simp] theorem setPower_lastUpdate (i : Slot) (p : Byte) : (setPower i p s).lastUpdate = s.lastUpdate := rfl
@[simp] theorem setPower_linkConnected (i : Slot) (p : Byte) : (setPower i p s).linkConnected = s.linkConnected := rfl
@[simp] theorem setPower_opMode (i : Slot) (p : Byte) : (setPower i p s).opMode = s.opMode := rfl
@[simp] theorem setPower_ledStatus (i : Slot) (p : Byte) : (setPower i p s).ledStatus = s.ledStatus := rfl
@[simp] theorem setPower_ledPhase (i : Slot) (p : Byte) : (setPower i p s).ledPhase = s.ledPhase := rfl
@[simp] theorem setPower_gameState (i : Slot) (p : Byte) : (setPower i p s).gameState = s.gameState := rfl
@[simp] theorem setPower_targetLaps (i : Slot) (p : Byte) : (setPower i p s).targetLaps = s.targetLaps := rfl
@[simp] theorem setPower_activeCarCount (i : Slot) (p : Byte) : (setPower i p s).activeCarCount = s.activeCarCount := rfl
@[simp] theorem setPower_finishedCarCount (i : Slot) (p : Byte) : (setPower i p s).finishedCarCount = s.finishedCarCount := rfl
@[simp] theorem setPower_gameTime (i : Slot) (p : Byte) : (setPower i p s).gameTime = s.gameTime := rfl
@[simp] theorem setPower_positions (i : Slot) (p : Byte) : (setPower i p s).positions = s.positions := rfl
@[simp] theorem setPower_nextUpdate (i : Slot) (p : Byte) : (setPower i p s).nextUpdate = s.nextUpdate := rfl
@[simp] theorem setPower_cars (i : Slot) (p : Byte) : (setPower i p s).cars = s.cars := rfl
@[simp] theorem setPower_conn (i : Slot) (p : Byte) : (setPower i p s).conn = s.conn := rfl
@[simp] theorem setPower_bindStart (i : Slot) (p : Byte) : (setPower i p s).bindStart = s.bindStart := rfl
@[simp] theorem setPower_bindTarget (i : Slot) (p : Byte) : (setPower i p s).bindTarget = s.bindTarget := rfl
@[simp] theorem setPower_finishPending (i : Slot) (p : Byte) : (setPower i p s).finishPending = s.finishPending := rfl
@[simp] theorem setPower_finishDeadline (i : Slot) (p : Byte) : (setPower i p s).finishDeadline = s.finishDeadline := rfl
@[simp] theorem setPower_cmdStatus (i : Slot) (p : Byte) : (setPower i p s).cmdStatus = s.cmdStatus := rfl
@[simp] theorem setPower_cmdResult (i : Slot) (p : Byte) : (setPower i p s).cmdResult = s.cmdResult := rfl
@[simp] theorem setPower_eventQ (i : Slot) (p : Byte) : (setPower i p s).eventQ = s.eventQ := rfl
@[simp] theorem setPower_diagLog (i : Slot) (p : Byte) : (setPower i p s).diagLog = s.diagLog := rfl
@[simp] theorem setPower_txOut (i : Slot) (p : Byte) : (setPower i p s).txOut = s.txOut := rfl
@[simp] theorem setPower_fault (i : Slot) (p : Byte) : (setPower i p s).fault = s.fault := rfl

/-! `setBrake` -/

@[simp] theorem setBrake_params (i : Slot) (x : Bool) : (setBrake i x s).params = s.params := rfl
@[simp] theorem setBrake_inputs (i : Slot) (x : Bool) : (setBrake i x s).inputs = s.inputs := rfl
@[simp] theorem setBrake_clock (i : Slot) (x : Bool) : (setBrake i x s).clock = s.clock := rfl
@[simp] theorem setBrake_linkState (i : Slot) (x : Bool) : (setBrake i x s).linkState = s.linkState := rfl
@[simp] theorem setBrake_rxBuf (i : Slot) (x : Bool) : (setBrake i x s).rxBuf = s.rxBuf := rfl
@[simp] theorem setBrake_rxCount (i : Slot) (x : Bool) : (setBrake i x s).rxCount = s.rxCount := rfl
@[simp] theorem setBrake_prevFrame (i : Slot) (x : Bool) : (setBrake i x s).prevFrame = s.prevFrame := rfl
@[simp] theorem setBrake_txBuf (i : Slot) (x : Bool) : (setBrake i x s).txBuf = s.txBuf := rfl
@[simp] theorem setBrake_txIdx (i : Slot) (x : Bool) : (setBrake i x s).txIdx = s.txIdx := rfl
@[simp] theorem setBrake_lastUpdate (i : Slot) (x : Bool) : (setBrake i x s).lastUpdate = s.lastUpdate := rfl
@[simp] theorem setBrake_linkConnected (i : Slot) (x : Bool) : (setBrake i x s).linkConnected = s.linkConnected := rfl
@[simp] theorem setBrake_opMode (i : Slot) (x : Bool) : (setBrake i x s).opMode = s.opMode := rfl
@[simp] theorem setBrake_ledStatus (i : Slot) (x : Bool) : (setBrake i x s).ledStatus = s.ledStatus := rfl
@[simp] theorem setBrake_ledPhase (i : Slot) (x : Bool) : (setBrake i x s).ledPhase = s.ledPhase := rfl
@[simp] theorem setBrake_gameState (i : Slot) (x : Bool) : (setBrake i x s).gameState = s.gameState := rfl
@[simp] theorem setBrake_targetLaps (i : Slot) (x : Bool) : (setBrake i x s).targetLaps = s.targetLaps := rfl
@[simp] theorem setBrake_activeCarCount (i : Slot) (x : Bool) : (setBrake i x s).activeCarCount = s.activeCarCount := rfl
@[simp] theorem setBrake_finishedCarCount (i : Slot) (x : Bool) : (setBrake i x s).finishedCarCount = s.finishedCarCount := rfl
@[simp] theorem setBrake_gameTime (i : Slot) (x : Bool) : (setBrake i x s).gameTime = s.gameTime := rfl
@[simp] theorem setBrake_positions (i : Slot) (x : Bool) : (setBrake i x s).positions = s.positions := rfl
@[simp] theorem setBrake_nextUpdate (i : Slot) (x : Bool) : (setBrake i x s).nextUpdate = s.nextUpdate := rfl
@[simp] theorem setBrake_cars (i : Slot) (x : Bool) : (setBrake i x s).cars = s.cars := rfl
@[simp] theorem setBrake_conn (i : Slot) (x : Bool) : (setBrake i x s).conn = s.conn := rfl
@[simp] theorem setBrake_bindStart (i : Slot) (x : Bool) : (setBrake i x s).bindStart = s.bindStart := rfl
@[simp] theorem setBrake_bindTarget (i : Slot) (x : Bool) : (setBrake i x s).bindTarget = s.bindTarget := rfl
@[simp] theorem setBrake_finishPending (i : Slot) (x : Bool) : (setBrake i x s).finishPending = s.finishPending := rfl
@[simp] theorem setBrake_finishDeadline (i : Slot) (x : Bool) : (setBrake i x s).finishDeadline = s.finishDeadline := rfl
@[simp] theorem setBrake_cmdStatus (i : Slot) (x : Bool) : (setBrake i x s).cmdStatus = s.cmdStatus := rfl
@[simp] theorem setBrake_cmdResult (i : Slot) (x : Bool) : (setBrake i x s).cmdResult = s.cmdResult := rfl
@[simp] theorem setBrake_eventQ (i : Slot) (x : Bool) : (setBrake i x s).eventQ = s.eventQ := rfl
@[simp] theorem setBrake_diagLog (i : Slot) (x : Bool) : (setBrake i x s).diagLog = s.diagLog := rfl
@[simp] theorem setBrake_txOut (i : Slot) (x : Bool) : (setBrake i x s).txOut = s.txOut := rfl
@[simp] theorem setBrake_fault (i : Slot) (x : Bool) : (setBrake i x s).fault = s.fault := rfl

/-! `setLaneChange` -/

@[simp] theorem setLaneChange_params (i : Slot) (x : Bool) : (setLaneChange i x s).params = s.params := rfl
@[simp] theorem setLaneChange_inputs (i : Slot) (x : Bool) : (setLaneChange i x s).inputs = s.inputs := rfl
@[simp] theorem setLaneChange_clock (i : Slot) (x : Bool) : (setLaneChange i x s).clock = s.clock := rfl
@[simp] theorem setLaneChange_linkState (i : Slot) (x : Bool) : (setLaneChange i x s).linkState = s.linkState := rfl
@[simp] theorem setLaneChange_rxBuf (i : Slot) (x : Bool) : (setLaneChange i x s).rxBuf = s.rxBuf := rfl
@[simp] theorem setLaneChange_rxCount (i : Slot) (x : Bool) : (setLaneChange i x s).rxCount = s.rxCount := rfl
@[simp] theorem setLaneChange_prevFrame (i : Slot) (x : Bool) : (setLaneChange i x s).prevFrame = s.prevFrame := rfl
@[simp] theorem setLaneChange_txBuf (i : Slot) (x : Bool) : (setLaneChange i x s).txBuf = s.txBuf := rfl
@[simp] theorem setLaneChange_txIdx (i : Slot) (x : Bool) : (setLaneChange i x s).txIdx = s.txIdx := rfl
@[simp] theorem setLaneChange_lastUpdate (i : Slot) (x : Bool) : (setLaneChange i x s).lastUpdate = s.lastUpdate := rfl
@[simp] theorem setLaneChange_linkConnected (i : Slot) (x : Bool) : (setLaneChange i x s).linkConnected = s.linkConnected := rfl
@[simp] theorem setLaneChange_opMode (i : Slot) (x : Bool) : (setLaneChange i x s).opMode = s.opMode := rfl
@[simp] theorem setLaneChange_ledStatus (i : Slot) (x : Bool) : (setLaneChange i x s).ledStatus = s.ledStatus := rfl
@[simp] theorem setLaneChange_ledPhase (i : Slot) (x : Bool) : (setLaneChange i x s).ledPhase = s.ledPhase := rfl
@[simp] theorem setLaneChange_gameState (i : Slot) (x : Bool) : (setLaneChange i x s).gameState = s.gameState := rfl
@[simp] theorem setLaneChange_targetLaps (i : Slot) (x : Bool) : (setLaneChange i x s).targetLaps = s.targetLaps := rfl
@[simp] theorem setLaneChange_activeCarCount (i : Slot) (x : Bool) : (setLaneChange i x s).activeCarCount = s.activeCarCount := rfl
@[simp] theorem setLaneChange_finishedCarCount (i : Slot) (x : Bool) : (setLaneChange i x s).finishedCarCount = s.finishedCarCount := rfl
@[simp] theorem setLaneChange_gameTime (i : Slot) (x : Bool) : (setLaneChange i x s).gameTime = s.gameTime := rfl
@[simp] theorem setLaneChange_positions (i : Slot) (x : Bool) : (setLaneChange i x s).positions = s.positions := rfl
@[simp] theorem setLaneChange_nextUpdate (i : Slot) (x : Bool) : (setLaneChange i x s).nextUpdate = s.nextUpdate := rfl
@[simp] theorem setLaneChange_cars (i : Slot) (x : Bool) : (setLaneChange i x s).cars = s.cars := rfl
@[simp] theorem setLaneChange_conn (i : Slot) (x : Bool) : (setLaneChange i x s).conn = s.conn := rfl
@[simp] theorem setLaneChange_bindStart (i : Slot) (x : Bool) : (setLaneChange i x s).bindStart = s.bindStart := rfl
@[simp] theorem setLaneChange_bindTarget (i : Slot) (x : Bool) : (setLaneChange i x s).bindTarget = s.bindTarget := rfl
@[simp] theorem setLaneChange_finishPending (i : Slot) (x : Bool) : (setLaneChange i x s).finishPending = s.finishPending := rfl
@[simp] theorem setLaneChange_finishDeadline (i : Slot) (x : Bool) : (setLaneChange i x s).finishDeadline = s.finishDeadline := rfl
@[simp] theorem setLaneChange_cmdStatus (i : Slot) (x : Bool) : (setLaneChange i x s).cmdStatus = s.cmdStatus := rfl
@[simp] theorem setLaneChange_cmdResult (i : Slot) (x : Bool) : (setLaneChange i x s).cmdResult = s.cmdResult := rfl
@[simp] theorem setLaneChange_eventQ (i : Slot) (x : Bool) : (setLaneChange i x s).eventQ = s.eventQ := rfl
@[simp] theorem setLaneChange_diagLog (i : Slot) (x : Bool) : (setLaneChange i x s).diagLog = s.diagLog := rfl
@[simp] theorem setLaneChange_txOut (i : Slot) (x : Bool) : (setLaneChange i x s).txOut = s.txOut := rfl
@[simp] theorem setLaneChange_fault (i : Slot) (x : Bool) : (setLaneChange i x s).fault = s.fault := rfl

/-! `setState` -/

@[simp] theorem setState_params (g : GameState) : (setState g s).params = s.params := by
  unfold setState; split <;> [skip; (cases g)] <;> simp [entryResetsRaceData]
@[simp] theorem setState_inputs (g : GameState) : (setState g s).inputs = s.inputs := by
  unfold setState; split <;> [skip; (cases g)] <;> simp [entryResetsRaceData]
@[simp] theorem setState_clock (g : GameState) : (setState g s).clock = s.clock := by
  unfold setState; split <;> [skip; (cases g)] <;> simp [entryResetsRaceData]
@[simp] theorem setState_linkState (g : GameState) : (setState g s).linkState = s.linkState := by
  unfold setState; split <;> [skip; (cases g)] <;> simp [entryResetsRaceData]
@[simp] theorem setState_rxBuf (g : GameState) : (setState g s).rxBuf = s.rxBuf := by
  unfold setState; split <;> [skip; (cases g)] <;> simp [entryResetsRaceData]
@[simp] theorem setState_rxCount (g : GameState) : (setState g s).rxCount = s.rxCount := by
  unfold setState; split <;> [skip; (cases g)] <;> simp [entryResetsRaceData]
@[simp] theorem setState_prevFrame (g : GameState) : (setState g s).prevFrame = s.prevFrame := by
  unfold setState; split <;> [skip; (cases g)] <;> simp [entryResetsRaceData]
@[simp] theorem setState_txBuf (g : GameState) : (setState g s).txBuf = s.txBuf := by
  unfold setState; split <;> [skip; (cases g)] <;> simp [entryResetsRaceData]
@[simp] theorem setState_txIdx (g : GameState) : (setState g s).txIdx = s.txIdx := by
  unfold setState; split <;> [skip; (cases g)] <;> simp [entryResetsRaceData]
@[simp] theorem setState_lastUpdate (g : GameState) : (setState g s).lastUpdate = s.lastUpdate := by
  unfold setState; split <;> [skip; (cases g)] <;> simp [entryResetsRaceData]
@[simp] theorem setState_linkConnected (g : GameState) : (setState g s).linkConnected = s.linkConnected := by
  unfold setState; split <;> [skip; (cases g)] <;> simp [entryResetsRaceData]
@[simp] theorem setState_opMode (g : GameState) : (setState g s).opMode = s.opMode := by
  unfold setState; split <;> [skip; (cases g)] <;> simp [entryResetsRaceData]
@[simp] theorem setState_ledStatus (g : GameState) : (setState g s).ledStatus = s.ledStatus := by
  unfold setState; split <;> [skip; (cases g)] <;> simp [entryResetsRaceData]
@[simp] theorem setState_targetLaps (g : GameState) : (setState g s).targetLaps = s.targetLaps := by
  unfold setState; split <;> [skip; (cases g)] <;> simp [entryResetsRaceData]
@[simp] theorem setState_activeCarCount (g : GameState) : (setState g s).activeCarCount = s.activeCarCount := by
  unfold setState; split <;> [skip; (cases g)] <;> simp [entryResetsRaceData]
@[simp] theorem setState_gameTime (g : GameState) : (setState g s).gameTime = s.gameTime := by
  unfold setState; split <;> [skip; (cases g)] <;> simp [entryResetsRaceData]
@[simp] theorem setState_nextUpdate (g : GameState) : (setState g s).nextUpdate = s.nextUpdate := by
  unfold setState; split <;> [skip; (cases g)] <;> simp [entryResetsRaceData]
@[simp] theorem setState_conn (g : GameState) : (setState g s).conn = s.conn := by
  unfold setState; split <;> [skip; (cases g)] <;> simp [entryResetsRaceData]
@[simp] theorem setState_bindStart (g : GameState) : (setState g s).bindStart = s.bindStart := by
  unfold setState; split <;> [skip; (cases g)] <;> simp [entryResetsRaceData]
@[simp] theorem setState_bindTarget (g : GameState) : (setState g s).bindTarget = s.bindTarget := by
  unfold setState; split <;> [skip; (cases g)] <;> simp [entryResetsRaceData]
@[simp] theorem setState_finishPending (g : GameState) : (setState g s).finishPending = s.finishPending := by
  unfold setState; split <;> [skip; (cases g)] <;> simp [entryResetsRaceData]
@[simp] theorem setState_finishDeadline (g : GameState) : (setState g s).finishDeadline = s.finishDeadline := by
  unfold setState; split <;> [skip; (cases g)] <;> simp [entryResetsRaceData]
@[simp] theorem setState_cmdStatus (g : GameState) : (setState g s).cmdStatus = s.cmdStatus := by
  unfold setState; split <;> [skip; (cases g)] <;> simp [entryResetsRaceData]
@[simp] theorem setState_cmdResult (g : GameState) : (setState g s).cmdResult = s.cmdResult := by
  unfold setState; split <;> [skip; (cases g)] <;> simp [entryResetsRaceData]
@[simp] theorem setState_diagLog (g : GameState) : (setState g s).diagLog = s.diagLog := by
  unfold setState; split <;> [skip; (cases g)] <;> simp [entryResetsRaceData]
@[simp] theorem setState_txOut (g : GameState) : (setState g s).txOut = s.txOut := by
  unfold setState; split <;> [skip; (cases g)] <;> simp [entryResetsRaceData]

/-! `ledCycle1` -/

@[simp] theorem ledCycle1_params : (ledCycle1 s).params = s.params := rfl
@[simp] theorem ledCycle1_inputs : (ledCycle1 s).inputs = s.inputs := rfl
@[simp] theorem ledCycle1_clock : (ledCycle1 s).clock = s.clock := rfl
@[simp] theorem ledCycle1_linkState : (ledCycle1 s).linkState = s.linkState := rfl
@[simp] theorem ledCycle1_rxBuf : (ledCycle1 s).rxBuf = s.rxBuf := rfl
@[simp] theorem ledCycle1_rxCount : (ledCycle1 s).rxCount = s.rxCount := rfl
@[simp] theorem ledCycle1_prevFrame : (ledCycle1 s).prevFrame = s.prevFrame := rfl
@[simp] theorem ledCycle1_txBuf : (ledCycle1 s).txBuf = s.txBuf := rfl
@[simp] theorem ledCycle1_txIdx : (ledCycle1 s).txIdx = s.txIdx := rfl
@[simp] theorem ledCycle1_lastUpdate : (ledCycle1 s).lastUpdate = s.lastUpdate := rfl
@[simp] theorem ledCycle1_linkConnected : (ledCycle1 s).linkConnected = s.linkConnected := rfl
@[simp] theorem ledCycle1_opMode : (ledCycle1 s).opMode = s.opMode := rfl
@[simp] theorem ledCycle1_drive : (ledCycle1 s).drive = s.drive := rfl
@[simp] theorem ledCycle1_gameState : (ledCycle1 s).gameState = s.gameState := rfl
@[simp] theorem ledCycle1_targetLaps : (ledCycle1 s).targetLaps = s.targetLaps := rfl
@[simp] theorem ledCycle1_activeCarCount : (ledCycle1 s).activeCarCount = s.activeCarCount := rfl
@[simp] theorem ledCycle1_finishedCarCount : (ledCycle1 s).finishedCarCount = s.finishedCarCount := rfl
@[simp] theorem ledCycle1_gameTime : (ledCycle1 s).gameTime = s.gameTime := rfl
@[simp] theorem ledCycle1_positions : (ledCycle1 s).positions = s.positions := rfl
@[simp] theorem ledCycle1_nextUpdate : (ledCycle1 s).nextUpdate = s.nextUpdate := rfl
@[simp] theorem ledCycle1_cars : (ledCycle1 s).cars = s.cars := rfl
@[simp] theorem ledCycle1_conn : (ledCycle1 s).conn = s.conn := rfl
@[simp] theorem ledCycle1_bindStart : (ledCycle1 s).bindStart = s.bindStart := rfl
@[simp] theorem ledCycle1_bindTarget : (ledCycle1 s).bindTarget = s.bindTarget := rfl
@[simp] theorem ledCycle1_finishPending : (ledCycle1 s).finishPending = s.finishPending := rfl
@[simp] theorem ledCycle1_finishDeadline : (ledCycle1 s).finishDeadline = s.finishDeadline := rfl
@[simp] theorem ledCycle1_cmdStatus : (ledCycle1 s).cmdStatus = s.cmdStatus := rfl
@[simp] theorem ledCycle1_cmdResult : (ledCycle1 s).cmdResult = s.cmdResult := rfl
@[simp] theorem ledCycle1_eventQ : (ledCycle1 s).eventQ = s.eventQ := rfl
@[simp] theorem ledCycle1_diagLog : (ledCycle1 s).diagLog = s.diagLog := rfl
@[simp] theorem ledCycle1_txOut : (ledCycle1 s).txOut = s.txOut := rfl
@[simp] theorem ledCycle1_fault : (ledCycle1 s).fault = s.fault := rfl

/-! `ledCycle2` -/

@[simp] theorem ledCycle2_params : (ledCycle2 s).params = s.params := by unfold ledCycle2; dsimp only; split <;> simp
@[simp] theorem ledCycle2_inputs : (ledCycle2 s).inputs = s.inputs := by unfold ledCycle2; dsimp only; split <;> simp
@[simp] theorem ledCycle2_clock : (ledCycle2 s).clock = s.clock := by unfold ledCycle2; dsimp only; split <;> simp
@[simp] theorem ledCycle2_linkState : (ledCycle2 s).linkState = s.linkState := by unfold ledCycle2; dsimp only; split <;> simp
@[simp] theorem ledCycle2_rxBuf : (ledCycle2 s).rxBuf = s.rxBuf := by unfold ledCycle2; dsimp only; split <;> simp
@[simp] theorem ledCycle2_rxCount : (ledCycle2 s).rxCount = s.rxCount := by unfold ledCycle2; dsimp only; split <;> simp
@[simp] theorem ledCycle2_prevFrame : (ledCycle2 s).prevFrame = s.prevFrame := by unfold ledCycle2; dsimp only; split <;> simp
@[simp] theorem ledCycle2_txBuf : (ledCycle2 s).txBuf = s.txBuf := by unfold ledCycle2; dsimp only; split <;> simp
@[simp] theorem ledCycle2_txIdx : (ledCycle2 s).txIdx = s.txIdx := by unfold ledCycle2; dsimp only; split <;> simp
@[simp] theorem ledCycle2_lastUpdate : (ledCycle2 s).lastUpdate = s.lastUpdate := by unfold ledCycle2; dsimp only; split <;> simp
@[simp] theorem ledCycle2_linkConnected : (ledCycle2 s).linkConnected = s.linkConnected := by unfold ledCycle2; dsimp only; split <;> simp
@[simp] theorem ledCycle2_opMode : (ledCycle2 s).opMode = s.opMode := by unfold ledCycle2; dsimp only; split <;> simp
@[simp] theorem ledCycle2_targetLaps : (ledCycle2 s).targetLaps = s.targetLaps := by unfold ledCycle2; dsimp only; split <;> simp
@[simp] theorem ledCycle2_activeCarCount : (ledCycle2 s).activeCarCount = s.activeCarCount := by unfold ledCycle2; dsimp only; split <;> simp
@[simp] theorem ledCycle2_gameTime : (ledCycle2 s).gameTime = s.gameTime := by unfold ledCycle2; dsimp only; split <;> simp
@[simp] theorem ledCycle2_conn : (ledCycle2 s).conn = s.conn := by unfold ledCycle2; dsimp only; split <;> simp
@[simp] theorem ledCycle2_bindStart : (ledCycle2 s).bindStart = s.bindStart := by unfold ledCycle2; dsimp only; split <;> simp
@[simp] theorem ledCycle2_bindTarget : (ledCycle2 s).bindTarget = s.bindTarget := by unfold ledCycle2; dsimp only; split <;> simp
@[simp] theorem ledCycle2_finishPending : (ledCycle2 s).finishPending = s.finishPending := by unfold ledCycle2; dsimp only; split <;> simp
@[simp] theorem ledCycle2_finishDeadline : (ledCycle2 s).finishDeadline = s.finishDeadline := by unfold ledCycle2; dsimp only; split <;> simp
@[simp] theorem ledCycle2_cmdStatus : (ledCycle2 s).cmdStatus = s.cmdStatus := by unfold ledCycle2; dsimp only; split <;> simp
@[simp] theorem ledCycle2_cmdResult : (ledCycle2 s).cmdResult = s.cmdResult := by unfold ledCycle2; dsimp only; split <;> simp
@[simp] theorem ledCycle2_diagLog : (ledCycle2 s).diagLog = s.diagLog := by unfold ledCycle2; dsimp only; split <;> simp
@[simp] theorem ledCycle2_txOut : (ledCycle2 s).txOut = s.txOut := by unfold ledCycle2; dsimp only; split <;> simp

/-! `ledCycle` -/

@[simp] theorem ledCycle_params : (ledCycle s).params = s.params := by unfold ledCycle; split <;> simp
@[simp] theorem ledCycle_inputs : (ledCycle s).inputs = s.inputs := by unfold ledCycle; split <;> simp
@[simp] theorem ledCycle_clock : (ledCycle s).clock = s.clock := by unfold ledCycle; split <;> simp
@[simp] theorem ledCycle_linkState : (ledCycle s).linkState = s.linkState := by unfold ledCycle; split <;> simp
@[simp] theorem ledCycle_rxBuf : (ledCycle s).rxBuf = s.rxBuf := by unfold ledCycle; split <;> simp
@[simp] theorem ledCycle_rxCount : (ledCycle s).rxCount = s.rxCount := by unfold ledCycle; split <;> simp
@[simp] theorem ledCycle_prevFrame : (ledCycle s).prevFrame = s.prevFrame := by unfold ledCycle; split <;> simp
@[simp] theorem ledCycle_txBuf : (ledCycle s).txBuf = s.txBuf := by unfold ledCycle; split <;> simp
@[simp] theorem ledCycle_txIdx : (ledCycle s).txIdx = s.txIdx := by unfold ledCycle; split <;> simp
@[simp] theorem ledCycle_lastUpdate : (ledCycle s).lastUpdate = s.lastUpdate := by unfold ledCycle; split <;> simp
@[simp] theorem ledCycle_linkConnected : (ledCycle s).linkConnected = s.linkConnected := by unfold ledCycle; split <;> simp
@[simp] theorem ledCycle_opMode : (ledCycle s).opMode = s.opMode := by unfold ledCycle; split <;> simp
@[simp] theorem ledCycle_targetLaps : (ledCycle s).targetLaps = s.targetLaps := by unfold ledCycle; split <;> simp
@[simp] theorem ledCycle_activeCarCount : (ledCycle s).activeCarCount = s.activeCarCount := by unfold ledCycle; split <;> simp
@[simp] theorem ledCycle_gameTime : (ledCycle s).gameTime = s.gameTime := by unfold ledCycle; split <;> simp
@[simp] theorem ledCycle_conn : (ledCycle s).conn = s.conn := by unfold ledCycle; split <;> simp
@[simp] theorem ledCycle_bindStart : (ledCycle s).bindStart = s.bindStart := by unfold ledCycle; split <;> simp
@[simp] theorem ledCycle_bindTarget : (ledCycle s).bindTarget = s.bindTarget := by unfold ledCycle; split <;> simp
@[simp] theorem ledCycle_finishPending : (ledCycle s).finishPending = s.finishPending := by unfold ledCycle; split <;> simp
@[simp] theorem ledCycle_finishDeadline : (ledCycle s).finishDeadline = s.finishDeadline := by unfold ledCycle; split <;> simp
@[simp] theorem ledCycle_cmdStatus : (ledCycle s).cmdStatus = s.cmdStatus := by unfold ledCycle; split <;> simp
@[simp] theorem ledCycle_cmdResult : (ledCycle s).cmdResult = s.cmdResult := by unfold ledCycle; split <;> simp
@[simp] theorem ledCycle_diagLog : (ledCycle s).diagLog = s.diagLog := by unfold ledCycle; split <;> simp
@[simp] theorem ledCycle_txOut : (ledCycle s).txOut = s.txOut := by unfold ledCycle; split <;> simp

/-! `enterWrite` -/

@[simp] theorem enterWrite_params : (enterWrite s).params = s.params := by simp [enterWrite]
@[simp] theorem enterWrite_inputs : (enterWrite s).inputs = s.inputs := by simp [enterWrite]
@[simp] theorem enterWrite_clock : (enterWrite s).clock = s.clock := by simp [enterWrite]
@[simp] theorem enterWrite_rxBuf : (enterWrite s).rxBuf = s.rxBuf := by simp [enterWrite]
@[simp] theorem enterWrite_rxCount : (enterWrite s).rxCount = s.rxCount := by simp [enterWrite]
@[simp] theorem enterWrite_prevFrame : (enterWrite s).prevFrame = s.prevFrame := by simp [enterWrite]
@[simp] theorem enterWrite_lastUpdate : (enterWrite s).lastUpdate = s.lastUpdate := by simp [enterWrite]
@[simp] theorem enterWrite_linkConnected : (enterWrite s).linkConnected = s.linkConnected := by simp [enterWrite]
@[simp] theorem enterWrite_opMode : (enterWrite s).opMode = s.opMode := by simp [enterWrite]
@[simp] theorem enterWrite_targetLaps : (enterWrite s).targetLaps = s.targetLaps := by simp [enterWrite]
@[simp] theorem enterWrite_activeCarCount : (enterWrite s).activeCarCount = s.activeCarCount := by simp [enterWrite]
@[simp] theorem enterWrite_gameTime : (enterWrite s).gameTime = s.gameTime := by simp [enterWrite]
@[simp] theorem enterWrite_conn : (enterWrite s).conn = s.conn := by simp [enterWrite]
@[simp] theorem enterWrite_bindStart : (enterWrite s).bindStart = s.bindStart := by simp [enterWrite]
@[simp] theorem enterWrite_bindTarget : (enterWrite s).bindTarget = s.bindTarget := by simp [enterWrite]
@[simp] theorem enterWrite_finishPending : (enterWrite s).finishPending = s.finishPending := by simp [enterWrite]
@[simp] theorem enterWrite_finishDeadline : (enterWrite s).finishDeadline = s.finishDeadline := by simp [enterWrite]
@[simp] theorem enterWrite_cmdStatus : (enterWrite s).cmdStatus = s.cmdStatus := by simp [enterWrite]
@[simp] theorem enterWrite_cmdResult : (enterWrite s).cmdResult = s.cmdResult := by simp [enterWrite]
@[simp] theorem enterWrite_diagLog : (enterWrite s).diagLog = s.diagLog := by simp [enterWrite]
@[simp] theorem enterWrite_txOut : (enterWrite s).txOut = s.txOut := by simp [enterWrite]

/-! `bindingStep` -/

@[simp] theorem bindingStep_params : (bindingStep s).params = s.params := by unfold bindingStep; split <;> simp
@[simp] theorem bindingStep_inputs : (bindingStep s).inputs = s.inputs := by unfold bindingStep; split <;> simp
@[simp] theorem bindingStep_clock : (bindingStep s).clock = s.clock := by unfold bindingStep; split <;> simp
@[simp] theorem bindingStep_linkState : (bindingStep s).linkState = s.linkState := by unfold bindingStep; split <;> simp
@[simp] theorem bindingStep_rxBuf : (bindingStep s).rxBuf = s.rxBuf := by unfold bindingStep; split <;> simp
@[simp] theorem bindingStep_rxCount : (bindingStep s).rxCount = s.rxCount := by unfold bindingStep; split <;> simp
@[simp] theorem bindingStep_prevFrame : (bindingStep s).prevFrame = s.prevFrame := by unfold bindingStep; split <;> simp
@[simp] theorem bindingStep_txBuf : (bindingStep s).txBuf = s.txBuf := by unfold bindingStep; split <;> simp
@[simp] theorem bindingStep_txIdx : (bindingStep s).txIdx = s.txIdx := by unfold bindingStep; split <;> simp
@[simp] theorem bindingStep_lastUpdate : (bindingStep s).lastUpdate = s.lastUpdate := by unfold bindingStep; split <;> simp
@[simp] theorem bindingStep_linkConnected : (bindingStep s).linkConnected = s.linkConnected := by unfold bindingStep; split <;> simp
@[simp] theorem bindingStep_opMode : (bindingStep s).opMode = s.opMode := by unfold bindingStep; split <;> simp
@[simp] theorem bindingStep_targetLaps : (bindingStep s).targetLaps = s.targetLaps := by unfold bindingStep; split <;> simp
@[simp] theorem bindingStep_activeCarCount : (bindingStep s).activeCarCount = s.activeCarCount := by unfold bindingStep; split <;> simp
@[simp] theorem bindingStep_gameTime : (bindingStep s).gameTime = s.gameTime := by unfold bindingStep; split <;> simp
@[simp] theorem bindingStep_nextUpdate : (bindingStep s).nextUpdate = s.nextUpdate := by unfold bindingStep; split <;> simp
@[simp] theorem bindingStep_conn : (bindingStep s).conn = s.conn := by unfold bindingStep; split <;> simp
@[simp] theorem bindingStep_bindStart : (bindingStep s).bindStart = s.bindStart := by unfold bindingStep; split <;> simp
@[simp] theorem bindingStep_bindTarget : (bindingStep s).bindTarget = s.bindTarget := by unfold bindingStep; split <;> simp
@[simp] theorem bindingStep_finishPending : (bindingStep s).finishPending = s.finishPending := by unfold bindingStep; split <;> simp
@[simp] theorem bindingStep_finishDeadline : (bindingStep s).finishDeadline = s.finishDeadline := by unfold bindingStep; split <;> simp
@[simp] theorem bindingStep_cmdStatus : (bindingStep s).cmdStatus = s.cmdStatus := by unfold bindingStep; split <;> simp
@[simp] theorem bindingStep_cmdResult : (bindingStep s).cmdResult = s.cmdResult := by unfold bindingStep; split <;> simp
@[simp] theorem bindingStep_diagLog : (bindingStep s).diagLog = s.diagLog := by unfold bindingStep; split <;> simp
@[simp] theorem bindingStep_txOut : (bindingStep s).txOut = s.txOut := by unfold bindingStep; split <;> simp

/-! `connectivityOf` -/

@[simp] theorem connectivityOf_params (f : InFrame) (i : Slot) : (connectivityOf f i s).params = s.params := by unfold connectivityOf; dsimp only; split <;> simp
@[simp] theorem connectivityOf_inputs (f : InFrame) (i : Slot) : (connectivityOf f i s).inputs = s.inputs := by unfold connectivityOf; dsimp only; split <;> simp
@[simp] theorem connectivityOf_clock (f : InFrame) (i : Slot) : (connectivityOf f i s).clock = s.clock := by unfold connectivityOf; dsimp only; split <;> simp
@[simp] theorem connectivityOf_linkState (f : InFrame) (i : Slot) : (connectivityOf f i s).linkState = s.linkState := by unfold connectivityOf; dsimp only; split <;> simp
@[simp] theorem connectivityOf_rxBuf (f : InFrame) (i : Slot) : (connectivityOf f i s).rxBuf = s.rxBuf := by unfold connectivityOf; dsimp only; split <;> simp
@[simp] theorem connectivityOf_rxCount (f : InFrame) (i : Slot) : (connectivityOf f i s).rxCount = s.rxCount := by unfold connectivityOf; dsimp only; split <;> simp
@[simp] theorem connectivityOf_prevFrame (f : InFrame) (i : Slot) : (connectivityOf f i s).prevFrame = s.prevFrame := by unfold connectivityOf; dsimp only; split <;> simp
@[simp] theorem connectivityOf_txBuf (f : InFrame) (i : Slot) : (connectivityOf f i s).txBuf = s.txBuf := by unfold connectivityOf; dsimp only; split <;> simp
@[simp] theorem connectivityOf_txIdx (f : InFrame) (i : Slot) : (connectivityOf f i s).txIdx = s.txIdx := by unfold connectivityOf; dsimp only; split <;> simp
@[simp] theorem connectivityOf_lastUpdate (f : InFrame) (i : Slot) : (connectivityOf f i s).lastUpdate = s.lastUpdate := by unfold connectivityOf; dsimp only; split <;> simp
@[simp] theorem connectivityOf_linkConnected (f : InFrame) (i : Slot) : (connectivityOf f i s).linkConnected = s.linkConnected := by unfold connectivityOf; dsimp only; split <;> simp
@[simp] theorem connectivityOf_opMode (f : InFrame) (i : Slot) : (connectivityOf f i s).opMode = s.opMode := by unfold connectivityOf; dsimp only; split <;> simp
@[simp] theorem connectivityOf_drive (f : InFrame) (i : Slot) : (connectivityOf f i s).drive = s.drive := by unfold connectivityOf; dsimp only; split <;> simp
@[simp] theorem connectivityOf_ledPhase (f : InFrame) (i : Slot) : (connectivityOf f i s).ledPhase = s.ledPhase := by unfold connectivityOf; dsimp only; split <;> simp
@[simp] theorem connectivityOf_gameState (f : InFrame) (i : Slot) : (connectivityOf f i s).gameState = s.gameState := by unfold connectivityOf; dsimp only; split <;> simp
@[simp] theorem connectivityOf_targetLaps (f : InFrame) (i : Slot) : (connectivityOf f i s).targetLaps = s.targetLaps := by unfold connectivityOf; dsimp only; split <;> simp
@[simp] theorem connectivityOf_activeCarCount (f : InFrame) (i : Slot) : (connectivityOf f i s).activeCarCount = s.activeCarCount := by unfold connectivityOf; dsimp only; split <;> simp
@[simp] theorem connectivityOf_finishedCarCount (f : InFrame) (i : Slot) : (connectivityOf f i s).finishedCarCount = s.finishedCarCount := by unfold connectivityOf; dsimp only; split <;> simp
@[simp] theorem connectivityOf_gameTime (f : InFrame) (i : Slot) : (connectivityOf f i s).gameTime = s.gameTime := by unfold connectivityOf; dsimp only; split <;> simp
@[simp] theorem connectivityOf_positions (f : InFrame) (i : Slot) : (connectivityOf f i s).positions = s.positions := by unfold connectivityOf; dsimp only; split <;> simp
@[simp] theorem connectivityOf_nextUpdate (f : InFrame) (i : Slot) : (connectivityOf f i s).nextUpdate = s.nextUpdate := by unfold connectivityOf; dsimp only; split <;> simp
@[simp] theorem connectivityOf_cars (f : InFrame) (i : Slot) : (connectivityOf f i s).cars = s.cars := by unfold connectivityOf; dsimp only; split <;> simp
@[simp] theorem connectivityOf_bindStart (f : InFrame) (i : Slot) : (connectivityOf f i s).bindStart = s.bindStart := by unfold connectivityOf; dsimp only; split <;> simp
@[simp] theorem connectivityOf_bindTarget (f : InFrame) (i : Slot) : (connectivityOf f i s).bindTarget = s.bindTarget := by unfold connectivityOf; dsimp only; split <;> simp
@[simp] theorem connectivityOf_finishPending (f : InFrame) (i : Slot) : (connectivityOf f i s).finishPending = s.finishPending := by unfold connectivityOf; dsimp only; split <;> simp
@[simp] theorem connectivityOf_finishDeadline (f : InFrame) (i : Slot) : (connectivityOf f i s).finishDeadline = s.finishDeadline := by unfold connectivityOf; dsimp only; split <;> simp
@[simp] theorem connectivityOf_cmdStatus (f : InFrame) (i : Slot) : (connectivityOf f i s).cmdStatus = s.cmdStatus := by unfold connectivityOf; dsimp only; split <;> simp
@[simp] theorem connectivityOf_cmdResult (f : InFrame) (i : Slot) : (connectivityOf f i s).cmdResult = s.cmdResult := by unfold connectivityOf; dsimp only; split <;> simp
@[simp] theorem connectivityOf_diagLog (f : InFrame) (i : Slot) : (connectivityOf f i s).diagLog = s.diagLog := by unfold connectivityOf; dsimp only; split <;> simp
@[simp] theorem connectivityOf_txOut (f : InFrame) (i : Slot) : (connectivityOf f i s).txOut = s.txOut := by unfold connectivityOf; dsimp only; split <;> simp

/-! `connectivityStep` -/

@[simp] theorem connectivityStep_params (f : InFrame) : (connectivityStep f s).params = s.params := by exact forSlots_preserves s (·.params) _ fun i u => by simp
@[simp] theorem connectivityStep_inputs (f : InFrame) : (connectivityStep f s).inputs = s.inputs := by exact forSlots_preserves s (·.inputs) _ fun i u => by simp
@[simp] theorem connectivityStep_clock (f : InFrame) : (connectivityStep f s).clock = s.clock := by exact forSlots_preserves s (·.clock) _ fun i u => by simp
@[simp] theorem connectivityStep_linkState (f : InFrame) : (connectivityStep f s).linkState = s.linkState := by
  exact forSlots_preserves s (·.linkState) _ fun i u => by simp
@[simp] theorem connectivityStep_rxBuf (f : InFrame) : (connectivityStep f s).rxBuf = s.rxBuf := by exact forSlots_preserves s (·.rxBuf) _ fun i u => by simp
@[simp] theorem connectivityStep_rxCount (f : InFrame) : (connectivityStep f s).rxCount = s.rxCount := by exact forSlots_preserves s (·.rxCount) _ fun i u => by simp
@[simp] theorem connectivityStep_prevFrame (f : InFrame) : (connectivityStep f s).prevFrame = s.prevFrame := by
  exact forSlots_preserves s (·.prevFrame) _ fun i u => by simp
@[simp] theorem connectivityStep_txBuf (f : InFrame) : (connectivityStep f s).txBuf = s.txBuf := by exact forSlots_preserves s (·.txBuf) _ fun i u => by simp
@[simp] theorem connectivityStep_txIdx (f : InFrame) : (connectivityStep f s).txIdx = s.txIdx := by exact forSlots_preserves s (·.txIdx) _ fun i u => by simp
@[simp] theorem connectivityStep_lastUpdate (f : InFrame) : (connectivityStep f s).lastUpdate = s.lastUpdate := by
  exact forSlots_preserves s (·.lastUpdate) _ fun i u => by simp
@[simp] theorem connectivityStep_linkConnected (f : InFrame) : (connectivityStep f s).linkConnected = s.linkConnected := by
  exact forSlots_preserves s (·.linkConnected) _ fun i u => by simp
@[simp] theorem connectivityStep_opMode (f : InFrame) : (connectivityStep f s).opMode = s.opMode := by exact forSlots_preserves s (·.opMode) _ fun i u => by simp
@[simp] theorem connectivityStep_drive (f : InFrame) : (connectivityStep f s).drive = s.drive := by exact forSlots_preserves s (·.drive) _ fun i u => by simp
@[simp] theorem connectivityStep_ledPhase (f : InFrame) : (connectivityStep f s).ledPhase = s.ledPhase := by exact forSlots_preserves s (·.ledPhase) _ fun i u => by simp
@[simp] theorem connectivityStep_gameState (f : InFrame) : (connectivityStep f s).gameState = s.gameState := by
  exact forSlots_preserves s (·.gameState) _ fun i u => by simp
@[simp] theorem connectivityStep_targetLaps (f : InFrame) : (connectivityStep f s).targetLaps = s.targetLaps := by
  exact forSlots_preserves s (·.targetLaps) _ fun i u => by simp
@[simp] theorem connectivityStep_activeCarCount (f : InFrame) : (connectivityStep f s).activeCarCount = s.activeCarCount := by
  exact forSlots_preserves s (·.activeCarCount) _ fun i u => by simp
@[simp] theorem connectivityStep_finishedCarCount (f : InFrame) : (connectivityStep f s).finishedCarCount = s.finishedCarCount := by
  exact forSlots_preserves s (·.finishedCarCount) _ fun i u => by simp
@[simp] theorem connectivityStep_gameTime (f : InFrame) : (connectivityStep f s).gameTime = s.gameTime := by exact forSlots_preserves s (·.gameTime) _ fun i u => by simp
@[simp] theorem connectivityStep_positions (f : InFrame) : (connectivityStep f s).positions = s.positions := by
  exact forSlots_preserves s (·.positions) _ fun i u => by simp
@[simp] theorem connectivityStep_nextUpdate (f : InFrame) : (connectivityStep f s).nextUpdate = s.nextUpdate := by
  exact forSlots_preserves s (·.nextUpdate) _ fun i u => by simp
@[simp] theorem connectivityStep_cars (f : InFrame) : (connectivityStep f s).cars = s.cars := by exact forSlots_preserves s (·.cars) _ fun i u => by simp
@[simp] theorem connectivityStep_bindStart (f : InFrame) : (connectivityStep f s).bindStart = s.bindStart := by
  exact forSlots_preserves s (·.bindStart) _ fun i u => by simp
@[simp] theorem connectivityStep_bindTarget (f : InFrame) : (connectivityStep f s).bindTarget = s.bindTarget := by
  exact forSlots_preserves s (·.bindTarget) _ fun i u => by simp
@[simp] theorem connectivityStep_finishPending (f : InFrame) : (connectivityStep f s).finishPending = s.finishPending := by
  exact forSlots_preserves s (·.finishPending) _ fun i u => by simp
@[simp] theorem connectivityStep_finishDeadline (f : InFrame) : (connectivityStep f s).finishDeadline = s.finishDeadline := by
  exact forSlots_preserves s (·.finishDeadline) _ fun i u => by simp
@[simp] theorem connectivityStep_cmdStatus (f : InFrame) : (connectivityStep f s).cmdStatus = s.cmdStatus := by
  exact forSlots_preserves s (·.cmdStatus) _ fun i u => by simp
@[simp] theorem connectivityStep_cmdResult (f : InFrame) : (connectivityStep f s).cmdResult = s.cmdResult := by
  exact forSlots_preserves s (·.cmdResult) _ fun i u => by simp
@[simp] theorem connectivityStep_diagLog (f : InFrame) : (connectivityStep f s).diagLog = s.diagLog := by exact forSlots_preserves s (·.diagLog) _ fun i u => by simp
@[simp] theorem connectivityStep_txOut (f : InFrame) : (connectivityStep f s).txOut = s.txOut := by exact forSlots_preserves s (·.txOut) _ fun i u => by simp

/-! `mapHandset` -/

@[simp] theorem mapHandset_params (i : Slot) (h hp : Byte) : (mapHandset i h hp s).params = s.params := by unfold mapHandset; dsimp only; split_ifs <;> simp
@[simp] theorem mapHandset_inputs (i : Slot) (h hp : Byte) : (mapHandset i h hp s).inputs = s.inputs := by unfold mapHandset; dsimp only; split_ifs <;> simp
@[simp] theorem mapHandset_clock (i : Slot) (h hp : Byte) : (mapHandset i h hp s).clock = s.clock := by unfold mapHandset; dsimp only; split_ifs <;> simp
@[simp] theorem mapHandset_linkState (i : Slot) (h hp : Byte) : (mapHandset i h hp s).linkState = s.linkState := by unfold mapHandset; dsimp only; split_ifs <;> simp
@[simp] theorem mapHandset_rxBuf (i : Slot) (h hp : Byte) : (mapHandset i h hp s).rxBuf = s.rxBuf := by unfold mapHandset; dsimp only; split_ifs <;> simp
@[simp] theorem mapHandset_rxCount (i : Slot) (h hp : Byte) : (mapHandset i h hp s).rxCount = s.rxCount := by unfold mapHandset; dsimp only; split_ifs <;> simp
@[simp] theorem mapHandset_prevFrame (i : Slot) (h hp : Byte) : (mapHandset i h hp s).prevFrame = s.prevFrame := by unfold mapHandset; dsimp only; split_ifs <;> simp
@[simp] theorem mapHandset_txBuf (i : Slot) (h hp : Byte) : (mapHandset i h hp s).txBuf = s.txBuf := by unfold mapHandset; dsimp only; split_ifs <;> simp
@[simp] theorem mapHandset_txIdx (i : Slot) (h hp : Byte) : (mapHandset i h hp s).txIdx = s.txIdx := by unfold mapHandset; dsimp only; split_ifs <;> simp
@[simp] theorem mapHandset_lastUpdate (i : Slot) (h hp : Byte) : (mapHandset i h hp s).lastUpdate = s.lastUpdate := by unfold mapHandset; dsimp only; split_ifs <;> simp
@[simp] theorem mapHandset_linkConnected (i : Slot) (h hp : Byte) : (mapHandset i h hp s).linkConnected = s.linkConnected := by unfold mapHandset; dsimp only; split_ifs <;> simp
@[simp] theorem mapHandset_opMode (i : Slot) (h hp : Byte) : (mapHandset i h hp s).opMode = s.opMode := by unfold mapHandset; dsimp only; split_ifs <;> simp
@[simp] theorem mapHandset_ledStatus (i : Slot) (h hp : Byte) : (mapHandset i h hp s).ledStatus = s.ledStatus := by unfold mapHandset; dsimp only; split_ifs <;> simp
@[simp] theorem mapHandset_ledPhase (i : Slot) (h hp : Byte) : (mapHandset i h hp s).ledPhase = s.ledPhase := by unfold mapHandset; dsimp only; split_ifs <;> simp
@[simp] theorem mapHandset_gameState (i : Slot) (h hp : Byte) : (mapHandset i h hp s).gameState = s.gameState := by unfold mapHandset; dsimp only; split_ifs <;> simp
@[simp] theorem mapHandset_targetLaps (i : Slot) (h hp : Byte) : (mapHandset i h hp s).targetLaps = s.targetLaps := by unfold mapHandset; dsimp only; split_ifs <;> simp
@[simp] theorem mapHandset_activeCarCount (i : Slot) (h hp : Byte) : (mapHandset i h hp s).activeCarCount = s.activeCarCount := by unfold mapHandset; dsimp only; split_ifs <;> simp
@[simp] theorem mapHandset_finishedCarCount (i : Slot) (h hp : Byte) : (mapHandset i h hp s).finishedCarCount = s.finishedCarCount := by unfold mapHandset; dsimp only; split_ifs <;> simp
@[simp] theorem mapHandset_gameTime (i : Slot) (h hp : Byte) : (mapHandset i h hp s).gameTime = s.gameTime := by unfold mapHandset; dsimp only; split_ifs <;> simp
@[simp] theorem mapHandset_positions (i : Slot) (h hp : Byte) : (mapHandset i h hp s).positions = s.positions := by unfold mapHandset; dsimp only; split_ifs <;> simp
@[simp] theorem mapHandset_nextUpdate (i : Slot) (h hp : Byte) : (mapHandset i h hp s).nextUpdate = s.nextUpdate := by unfold mapHandset; dsimp only; split_ifs <;> simp
@[simp] theorem mapHandset_cars (i : Slot) (h hp : Byte) : (mapHandset i h hp s).cars = s.cars := by unfold mapHandset; dsimp only; split_ifs <;> simp
@[simp] theorem mapHandset_conn (i : Slot) (h hp : Byte) : (mapHandset i h hp s).conn = s.conn := by unfold mapHandset; dsimp only; split_ifs <;> simp
@[simp] theorem mapHandset_bindStart (i : Slot) (h hp : Byte) : (mapHandset i h hp s).bindStart = s.bindStart := by unfold mapHandset; dsimp only; split_ifs <;> simp
@[simp] theorem mapHandset_bindTarget (i : Slot) (h hp : Byte) : (mapHandset i h hp s).bindTarget = s.bindTarget := by unfold mapHandset; dsimp only; split_ifs <;> simp
@[simp] theorem mapHandset_finishPending (i : Slot) (h hp : Byte) : (mapHandset i h hp s).finishPending = s.finishPending := by unfold mapHandset; dsimp only; split_ifs <;> simp
@[simp] theorem mapHandset_finishDeadline (i : Slot) (h hp : Byte) : (mapHandset i h hp s).finishDeadline = s.finishDeadline := by unfold mapHandset; dsimp only; split_ifs <;> simp
@[simp] theorem mapHandset_cmdStatus (i : Slot) (h hp : Byte) : (mapHandset i h hp s).cmdStatus = s.cmdStatus := by unfold mapHandset; dsimp only; split_ifs <;> simp
@[simp] theorem mapHandset_cmdResult (i : Slot) (h hp : Byte) : (mapHandset i h hp s).cmdResult = s.cmdResult := by unfold mapHandset; dsimp only; split_ifs <;> simp
@[simp] theorem mapHandset_eventQ (i : Slot) (h hp : Byte) : (mapHandset i h hp s).eventQ = s.eventQ := by unfold mapHandset; dsimp only; split_ifs <;> simp
@[simp] theorem mapHandset_diagLog (i : Slot) (h hp : Byte) : (mapHandset i h hp s).diagLog = s.diagLog := by unfold mapHandset; dsimp only; split_ifs <;> simp
@[simp] theorem mapHandset_txOut (i : Slot) (h hp : Byte) : (mapHandset i h hp s).txOut = s.txOut := by unfold mapHandset; dsimp only; split_ifs <;> simp
@[simp] theorem mapHandset_fault (i : Slot) (h hp : Byte) : (mapHandset i h hp s).fault = s.fault := by unfold mapHandset; dsimp only; split_ifs <;> simp

/-! `coast` -/

@[simp] theorem coast_params (i : Slot) : (coast i s).params = s.params := by simp [coast]
@[simp] theorem coast_inputs (i : Slot) : (coast i s).inputs = s.inputs := by simp [coast]
@[simp] theorem coast_clock (i : Slot) : (coast i s).clock = s.clock := by simp [coast]
@[simp] theorem coast_linkState (i : Slot) : (coast i s).linkState = s.linkState := by simp [coast]
@[simp] theorem coast_rxBuf (i : Slot) : (coast i s).rxBuf = s.rxBuf := by simp [coast]
@[simp] theorem coast_rxCount (i : Slot) : (coast i s).rxCount = s.rxCount := by simp [coast]
@[simp] theorem coast_prevFrame (i : Slot) : (coast i s).prevFrame = s.prevFrame := by simp [coast]
@[simp] theorem coast_txBuf (i : Slot) : (coast i s).txBuf = s.txBuf := by simp [coast]
@[simp] theorem coast_txIdx (i : Slot) : (coast i s).txIdx = s.txIdx := by simp [coast]
@[simp] theorem coast_lastUpdate (i : Slot) : (coast i s).lastUpdate = s.lastUpdate := by simp [coast]
@[simp] theorem coast_linkConnected (i : Slot) : (coast i s).linkConnected = s.linkConnected := by simp [coast]
@[simp] theorem coast_opMode (i : Slot) : (coast i s).opMode = s.opMode := by simp [coast]
@[simp] theorem coast_ledStatus (i : Slot) : (coast i s).ledStatus = s.ledStatus := by simp [coast]
@[simp] theorem coast_ledPhase (i : Slot) : (coast i s).ledPhase = s.ledPhase := by simp [coast]
@[simp] theorem coast_gameState (i : Slot) : (coast i s).gameState = s.gameState := by simp [coast]
@[simp] theorem coast_targetLaps (i : Slot) : (coast i s).targetLaps = s.targetLaps := by simp [coast]
@[simp] theorem coast_activeCarCount (i : Slot) : (coast i s).activeCarCount = s.activeCarCount := by simp [coast]
@[simp] theorem coast_finishedCarCount (i : Slot) : (coast i s).finishedCarCount = s.finishedCarCount := by simp [coast]
@[simp] theorem coast_gameTime (i : Slot) : (coast i s).gameTime = s.gameTime := by simp [coast]
@[simp] theorem coast_positions (i : Slot) : (coast i s).positions = s.positions := by simp [coast]
@[simp] theorem coast_nextUpdate (i : Slot) : (coast i s).nextUpdate = s.nextUpdate := by simp [coast]
@[simp] theorem coast_cars (i : Slot) : (coast i s).cars = s.cars := by simp [coast]
@[simp] theorem coast_conn (i : Slot) : (coast i s).conn = s.conn := by simp [coast]
@[simp] theorem coast_bindStart (i : Slot) : (coast i s).bindStart = s.bindStart := by simp [coast]
@[simp] theorem coast_bindTarget (i : Slot) : (coast i s).bindTarget = s.bindTarget := by simp [coast]
@[simp] theorem coast_finishPending (i : Slot) : (coast i s).finishPending = s.finishPending := by simp [coast]
@[simp] theorem coast_finishDeadline (i : Slot) : (coast i s).finishDeadline = s.finishDeadline := by simp [coast]
@[simp] theorem coast_cmdStatus (i : Slot) : (coast i s).cmdStatus = s.cmdStatus := by simp [coast]
@[simp] theorem coast_cmdResult (i : Slot) : (coast i s).cmdResult = s.cmdResult := by simp [coast]
@[simp] theorem coast_eventQ (i : Slot) : (coast i s).eventQ = s.eventQ := by simp [coast]
@[simp] theorem coast_diagLog (i : Slot) : (coast i s).diagLog = s.diagLog := by simp [coast]
@[simp] theorem coast_txOut (i : Slot) : (coast i s).txOut = s.txOut := by simp [coast]
@[simp] theorem coast_fault (i : Slot) : (coast i s).fault = s.fault := by simp [coast]

/-! `driveOf` -/

@[simp] theorem driveOf_params (f g : InFrame) (i : Slot) : (driveOf f g i s).params = s.params := by unfold driveOf; split_ifs <;> simp
@[simp] theorem driveOf_inputs (f g : InFrame) (i : Slot) : (driveOf f g i s).inputs = s.inputs := by unfold driveOf; split_ifs <;> simp
@[simp] theorem driveOf_clock (f g : InFrame) (i : Slot) : (driveOf f g i s).clock = s.clock := by unfold driveOf; split_ifs <;> simp
@[simp] theorem driveOf_linkState (f g : InFrame) (i : Slot) : (driveOf f g i s).linkState = s.linkState := by unfold driveOf; split_ifs <;> simp
@[simp] theorem driveOf_rxBuf (f g : InFrame) (i : Slot) : (driveOf f g i s).rxBuf = s.rxBuf := by unfold driveOf; split_ifs <;> simp
@[simp] theorem driveOf_rxCount (f g : InFrame) (i : Slot) : (driveOf f g i s).rxCount = s.rxCount := by unfold driveOf; split_ifs <;> simp
@[simp] theorem driveOf_prevFrame (f g : InFrame) (i : Slot) : (driveOf f g i s).prevFrame = s.prevFrame := by unfold driveOf; split_ifs <;> simp
@[simp] theorem driveOf_txBuf (f g : InFrame) (i : Slot) : (driveOf f g i s).txBuf = s.txBuf := by unfold driveOf; split_ifs <;> simp
@[simp] theorem driveOf_txIdx (f g : InFrame) (i : Slot) : (driveOf f g i s).txIdx = s.txIdx := by unfold driveOf; split_ifs <;> simp
@[simp] theorem driveOf_lastUpdate (f g : InFrame) (i : Slot) : (driveOf f g i s).lastUpdate = s.lastUpdate := by unfold driveOf; split_ifs <;> simp
@[simp] theorem driveOf_linkConnected (f g : InFrame) (i : Slot) : (driveOf f g i s).linkConnected = s.linkConnected := by unfold driveOf; split_ifs <;> simp
@[simp] theorem driveOf_opMode (f g : InFrame) (i : Slot) : (driveOf f g i s).opMode = s.opMode := by unfold driveOf; split_ifs <;> simp
@[simp] theorem driveOf_ledStatus (f g : InFrame) (i : Slot) : (driveOf f g i s).ledStatus = s.ledStatus := by unfold driveOf; split_ifs <;> simp
@[simp] theorem driveOf_ledPhase (f g : InFrame) (i : Slot) : (driveOf f g i s).ledPhase = s.ledPhase := by unfold driveOf; split_ifs <;> simp
@[simp] theorem driveOf_gameState (f g : InFrame) (i : Slot) : (driveOf f g i s).gameState = s.gameState := by unfold driveOf; split_ifs <;> simp
@[simp] theorem driveOf_targetLaps (f g : InFrame) (i : Slot) : (driveOf f g i s).targetLaps = s.targetLaps := by unfold driveOf; split_ifs <;> simp
@[simp] theorem driveOf_activeCarCount (f g : InFrame) (i : Slot) : (driveOf f g i s).activeCarCount = s.activeCarCount := by unfold driveOf; split_ifs <;> simp
@[simp] theorem driveOf_finishedCarCount (f g : InFrame) (i : Slot) : (driveOf f g i s).finishedCarCount = s.finishedCarCount := by unfold driveOf; split_ifs <;> simp
@[simp] theorem driveOf_gameTime (f g : InFrame) (i : Slot) : (driveOf f g i s).gameTime = s.gameTime := by unfold driveOf; split_ifs <;> simp
@[simp] theorem driveOf_positions (f g : InFrame) (i : Slot) : (driveOf f g i s).positions = s.positions := by unfold driveOf; split_ifs <;> simp
@[simp] theorem driveOf_nextUpdate (f g : InFrame) (i : Slot) : (driveOf f g i s).nextUpdate = s.nextUpdate := by unfold driveOf; split_ifs <;> simp
@[simp] theorem driveOf_cars (f g : InFrame) (i : Slot) : (driveOf f g i s).cars = s.cars := by unfold driveOf; split_ifs <;> simp
@[simp] theorem driveOf_conn (f g : InFrame) (i : Slot) : (driveOf f g i s).conn = s.conn := by unfold driveOf; split_ifs <;> simp
@[simp] theorem driveOf_bindStart (f g : InFrame) (i : Slot) : (driveOf f g i s).bindStart = s.bindStart := by unfold driveOf; split_ifs <;> simp
@[simp] theorem driveOf_bindTarget (f g : InFrame) (i : Slot) : (driveOf f g i s).bindTarget = s.bindTarget := by unfold driveOf; split_ifs <;> simp
@[simp] theorem driveOf_finishPending (f g : InFrame) (i : Slot) : (driveOf f g i s).finishPending = s.finishPending := by unfold driveOf; split_ifs <;> simp
@[simp] theorem driveOf_finishDeadline (f g : InFrame) (i : Slot) : (driveOf f g i s).finishDeadline = s.finishDeadline := by unfold driveOf; split_ifs <;> simp
@[simp] theorem driveOf_cmdStatus (f g : InFrame) (i : Slot) : (driveOf f g i s).cmdStatus = s.cmdStatus := by unfold driveOf; split_ifs <;> simp
@[simp] theorem driveOf_cmdResult (f g : InFrame) (i : Slot) : (driveOf f g i s).cmdResult = s.cmdResult := by unfold driveOf; split_ifs <;> simp
@[simp] theorem driveOf_eventQ (f g : InFrame) (i : Slot) : (driveOf f g i s).eventQ = s.eventQ := by unfold driveOf; split_ifs <;> simp
@[simp] theorem driveOf_diagLog (f g : InFrame) (i : Slot) : (driveOf f g i s).diagLog = s.diagLog := by unfold driveOf; split_ifs <;> simp
@[simp] theorem driveOf_txOut (f g : InFrame) (i : Slot) : (driveOf f g i s).txOut = s.txOut := by unfold driveOf; split_ifs <;> simp
@[simp] theorem driveOf_fault (f g : InFrame) (i : Slot) : (driveOf f g i s).fault = s.fault := by unfold driveOf; split_ifs <;> simp

/-! `driveStep` -/

@[simp] theorem driveStep_params (f g : InFrame) : (driveStep f g s).params = s.params := by
  unfold driveStep; split; · rfl
  · exact forSlots_preserves s (·.params) _ fun i u => by simp
@[simp] theorem driveStep_inputs (f g : InFrame) : (driveStep f g s).inputs = s.inputs := by
  unfold driveStep; split; · rfl
  · exact forSlots_preserves s (·.inputs) _ fun i u => by simp
@[simp] theorem driveStep_clock (f g : InFrame) : (driveStep f g s).clock = s.clock := by
  unfold driveStep; split; · rfl
  · exact forSlots_preserves s (·.clock) _ fun i u => by simp
@[simp] theorem driveStep_linkState (f g : InFrame) : (driveStep f g s).linkState = s.linkState := by
  unfold driveStep; split; · rfl
  · exact forSlots_preserves s (·.linkState) _ fun i u => by simp
@[simp] theorem driveStep_rxBuf (f g : InFrame) : (driveStep f g s).rxBuf = s.rxBuf := by
  unfold driveStep; split; · rfl
  · exact forSlots_preserves s (·.rxBuf) _ fun i u => by simp
@[simp] theorem driveStep_rxCount (f g : InFrame) : (driveStep f g s).rxCount = s.rxCount := by
  unfold driveStep; split; · rfl
  · exact forSlots_preserves s (·.rxCount) _ fun i u => by simp
@[simp] theorem driveStep_prevFrame (f g : InFrame) : (driveStep f g s).prevFrame = s.prevFrame := by
  unfold driveStep; split; · rfl
  · exact forSlots_preserves s (·.prevFrame) _ fun i u => by simp
@[simp] theorem driveStep_txBuf (f g : InFrame) : (driveStep f g s).txBuf = s.txBuf := by
  unfold driveStep; split; · rfl
  · exact forSlots_preserves s (·.txBuf) _ fun i u => by simp
@[simp] theorem driveStep_txIdx (f g : InFrame) : (driveStep f g s).txIdx = s.txIdx := by
  unfold driveStep; split; · rfl
  · exact forSlots_preserves s (·.txIdx) _ fun i u => by simp
@[simp] theorem driveStep_lastUpdate (f g : InFrame) : (driveStep f g s).lastUpdate = s.lastUpdate := by
  unfold driveStep; split; · rfl
  · exact forSlots_preserves s (·.lastUpdate) _ fun i u => by simp
@[simp] theorem driveStep_linkConnected (f g : InFrame) : (driveStep f g s).linkConnected = s.linkConnected := by
  unfold driveStep; split; · rfl
  · exact forSlots_preserves s (·.linkConnected) _ fun i u => by simp
@[simp] theorem driveStep_opMode (f g : InFrame) : (driveStep f g s).opMode = s.opMode := by
  unfold driveStep; split; · rfl
  · exact forSlots_preserves s (·.opMode) _ fun i u => by simp
@[simp] theorem driveStep_ledStatus (f g : InFrame) : (driveStep f g s).ledStatus = s.ledStatus := by
  unfold driveStep; split; · rfl
  · exact forSlots_preserves s (·.ledStatus) _ fun i u => by simp
@[simp] theorem driveStep_ledPhase (f g : InFrame) : (driveStep f g s).ledPhase = s.ledPhase := by
  unfold driveStep; split; · rfl
  · exact forSlots_preserves s (·.ledPhase) _ fun i u => by simp
@[simp] theorem driveStep_gameState (f g : InFrame) : (driveStep f g s).gameState = s.gameState := by
  unfold driveStep; split; · rfl
  · exact forSlots_preserves s (·.gameState) _ fun i u => by simp
@[simp] theorem driveStep_targetLaps (f g : InFrame) : (driveStep f g s).targetLaps = s.targetLaps := by
  unfold driveStep; split; · rfl
  · exact forSlots_preserves s (·.targetLaps) _ fun i u => by simp
@[simp] theorem driveStep_activeCarCount (f g : InFrame) : (driveStep f g s).activeCarCount = s.activeCarCount := by
  unfold driveStep; split; · rfl
  · exact forSlots_preserves s (·.activeCarCount) _ fun i u => by simp
@[simp] theorem driveStep_finishedCarCount (f g : InFrame) : (driveStep f g s).finishedCarCount = s.finishedCarCount := by
  unfold driveStep; split; · rfl
  · exact forSlots_preserves s (·.finishedCarCount) _ fun i u => by simp
@[simp] theorem driveStep_gameTime (f g : InFrame) : (driveStep f g s).gameTime = s.gameTime := by
  unfold driveStep; split; · rfl
  · exact forSlots_preserves s (·.gameTime) _ fun i u => by simp
@[simp] theorem driveStep_positions (f g : InFrame) : (driveStep f g s).positions = s.positions := by
  unfold driveStep; split; · rfl
  · exact forSlots_preserves s (·.positions) _ fun i u => by simp
@[simp] theorem driveStep_nextUpdate (f g : InFrame) : (driveStep f g s).nextUpdate = s.nextUpdate := by
  unfold driveStep; split; · rfl
  · exact forSlots_preserves s (·.nextUpdate) _ fun i u => by simp
@[simp] theorem driveStep_cars (f g : InFrame) : (driveStep f g s).cars = s.cars := by
  unfold driveStep; split; · rfl
  · exact forSlots_preserves s (·.cars) _ fun i u => by simp
@[simp] theorem driveStep_conn (f g : InFrame) : (driveStep f g s).conn = s.conn := by
  unfold driveStep; split; · rfl
  · exact forSlots_preserves s (·.conn) _ fun i u => by simp
@[simp] theorem driveStep_bindStart (f g : InFrame) : (driveStep f g s).bindStart = s.bindStart := by
  unfold driveStep; split; · rfl
  · exact forSlots_preserves s (·.bindStart) _ fun i u => by simp
@[simp] theorem driveStep_bindTarget (f g : InFrame) : (driveStep f g s).bindTarget = s.bindTarget := by
  unfold driveStep; split; · rfl
  · exact forSlots_preserves s (·.bindTarget) _ fun i u => by simp
@[simp] theorem driveStep_finishPending (f g : InFrame) : (driveStep f g s).finishPending = s.finishPending := by
  unfold driveStep; split; · rfl
  · exact forSlots_preserves s (·.finishPending) _ fun i u => by simp
@[simp] theorem driveStep_finishDeadline (f g : InFrame) : (driveStep f g s).finishDeadline = s.finishDeadline := by
  unfold driveStep; split; · rfl
  · exact forSlots_preserves s (·.finishDeadline) _ fun i u => by simp
@[simp] theorem driveStep_cmdStatus (f g : InFrame) : (driveStep f g s).cmdStatus = s.cmdStatus := by
  unfold driveStep; split; · rfl
  · exact forSlots_preserves s (·.cmdStatus) _ fun i u => by simp
@[simp] theorem driveStep_cmdResult (f g : InFrame) : (driveStep f g s).cmdResult = s.cmdResult := by
  unfold driveStep; split; · rfl
  · exact forSlots_preserves s (·.cmdResult) _ fun i u => by simp
@[simp] theorem driveStep_eventQ (f g : InFrame) : (driveStep f g s).eventQ = s.eventQ := by
  unfold driveStep; split; · rfl
  · exact forSlots_preserves s (·.eventQ) _ fun i u => by simp
@[simp] theorem driveStep_diagLog (f g : InFrame) : (driveStep f g s).diagLog = s.diagLog := by
  unfold driveStep; split; · rfl
  · exact forSlots_preserves s (·.diagLog) _ fun i u => by simp
@[simp] theorem driveStep_txOut (f g : InFrame) : (driveStep f g s).txOut = s.txOut := by
  unfold driveStep; split; · rfl
  · exact forSlots_preserves s (·.txOut) _ fun i u => by simp
@[simp] theorem driveStep_fault (f g : InFrame) : (driveStep f g s).fault = s.fault := by
  unfold driveStep; split; · rfl
  · exact forSlots_preserves s (·.fault) _ fun i u => by simp

/-! `countLap` -/

@[simp] theorem countLap_params (k : Slot) : (countLap k s).params = s.params := by unfold countLap; dsimp only; split_ifs <;> simp
@[simp] theorem countLap_inputs (k : Slot) : (countLap k s).inputs = s.inputs := by unfold countLap; dsimp only; split_ifs <;> simp
@[simp] theorem countLap_clock (k : Slot) : (countLap k s).clock = s.clock := by unfold countLap; dsimp only; split_ifs <;> simp
@[simp] theorem countLap_linkState (k : Slot) : (countLap k s).linkState = s.linkState := by unfold countLap; dsimp only; split_ifs <;> simp
@[simp] theorem countLap_rxBuf (k : Slot) : (countLap k s).rxBuf = s.rxBuf := by unfold countLap; dsimp only; split_ifs <;> simp
@[simp] theorem countLap_rxCount (k : Slot) : (countLap k s).rxCount = s.rxCount := by unfold countLap; dsimp only; split_ifs <;> simp
@[simp] theorem countLap_prevFrame (k : Slot) : (countLap k s).prevFrame = s.prevFrame := by unfold countLap; dsimp only; split_ifs <;> simp
@[simp] theorem countLap_txBuf (k : Slot) : (countLap k s).txBuf = s.txBuf := by unfold countLap; dsimp only; split_ifs <;> simp
@[simp] theorem countLap_txIdx (k : Slot) : (countLap k s).txIdx = s.txIdx := by unfold countLap; dsimp only; split_ifs <;> simp
@[simp] theorem countLap_lastUpdate (k : Slot) : (countLap k s).lastUpdate = s.lastUpdate := by unfold countLap; dsimp only; split_ifs <;> simp
@[simp] theorem countLap_linkConnected (k : Slot) : (countLap k s).linkConnected = s.linkConnected := by unfold countLap; dsimp only; split_ifs <;> simp
@[simp] theorem countLap_opMode (k : Slot) : (countLap k s).opMode = s.opMode := by unfold countLap; dsimp only; split_ifs <;> simp
@[simp] theorem countLap_drive (k : Slot) : (countLap k s).drive = s.drive := by unfold countLap; dsimp only; split_ifs <;> simp
@[simp] theorem countLap_ledStatus (k : Slot) : (countLap k s).ledStatus = s.ledStatus := by unfold countLap; dsimp only; split_ifs <;> simp
@[simp] theorem countLap_ledPhase (k : Slot) : (countLap k s).ledPhase = s.ledPhase := by unfold countLap; dsimp only; split_ifs <;> simp
@[simp] theorem countLap_gameState (k : Slot) : (countLap k s).gameState = s.gameState := by unfold countLap; dsimp only; split_ifs <;> simp
@[simp] theorem countLap_targetLaps (k : Slot) : (countLap k s).targetLaps = s.targetLaps := by unfold countLap; dsimp only; split_ifs <;> simp
@[simp] theorem countLap_activeCarCount (k : Slot) : (countLap k s).activeCarCount = s.activeCarCount := by unfold countLap; dsimp only; split_ifs <;> simp
@[simp] theorem countLap_gameTime (k : Slot) : (countLap k s).gameTime = s.gameTime := by unfold countLap; dsimp only; split_ifs <;> simp
@[simp] theorem countLap_positions (k : Slot) : (countLap k s).positions = s.positions := by unfold countLap; dsimp only; split_ifs <;> simp
@[simp] theorem countLap_nextUpdate (k : Slot) : (countLap k s).nextUpdate = s.nextUpdate := by unfold countLap; dsimp only; split_ifs <;> simp
@[simp] theorem countLap_conn (k : Slot) : (countLap k s).conn = s.conn := by unfold countLap; dsimp only; split_ifs <;> simp
@[simp] theorem countLap_bindStart (k : Slot) : (countLap k s).bindStart = s.bindStart := by unfold countLap; dsimp only; split_ifs <;> simp
@[simp] theorem countLap_bindTarget (k : Slot) : (countLap k s).bindTarget = s.bindTarget := by unfold countLap; dsimp only; split_ifs <;> simp
@[simp] theorem countLap_cmdStatus (k : Slot) : (countLap k s).cmdStatus = s.cmdStatus := by unfold countLap; dsimp only; split_ifs <;> simp
@[simp] theorem countLap_cmdResult (k : Slot) : (countLap k s).cmdResult = s.cmdResult := by unfold countLap; dsimp only; split_ifs <;> simp
@[simp] theorem countLap_eventQ (k : Slot) : (countLap k s).eventQ = s.eventQ := by unfold countLap; dsimp only; split_ifs <;> simp
@[simp] theorem countLap_diagLog (k : Slot) : (countLap k s).diagLog = s.diagLog := by unfold countLap; dsimp only; split_ifs <;> simp
@[simp] theorem countLap_txOut (k : Slot) : (countLap k s).txOut = s.txOut := by unfold countLap; dsimp only; split_ifs <;> simp
@[simp] theorem countLap_fault (k : Slot) : (countLap k s).fault = s.fault := by unfold countLap; dsimp only; split_ifs <;> simp

/-! `lapBookkeeping` -/

@[simp] theorem lapBookkeeping_params (k : Slot) (now : Time) : (lapBookkeeping k now s).params = s.params := by unfold lapBookkeeping; dsimp only; split_ifs <;> simp
@[simp] theorem lapBookkeeping_inputs (k : Slot) (now : Time) : (lapBookkeeping k now s).inputs = s.inputs := by unfold lapBookkeeping; dsimp only; split_ifs <;> simp
@[simp] theorem lapBookkeeping_clock (k : Slot) (now : Time) : (lapBookkeeping k now s).clock = s.clock := by unfold lapBookkeeping; dsimp only; split_ifs <;> simp
@[simp] theorem lapBookkeeping_linkState (k : Slot) (now : Time) : (lapBookkeeping k now s).linkState = s.linkState := by unfold lapBookkeeping; dsimp only; split_ifs <;> simp
@[simp] theorem lapBookkeeping_rxBuf (k : Slot) (now : Time) : (lapBookkeeping k now s).rxBuf = s.rxBuf := by unfold lapBookkeeping; dsimp only; split_ifs <;> simp
@[simp] theorem lapBookkeeping_rxCount (k : Slot) (now : Time) : (lapBookkeeping k now s).rxCount = s.rxCount := by unfold lapBookkeeping; dsimp only; split_ifs <;> simp
@[simp] theorem lapBookkeeping_prevFrame (k : Slot) (now : Time) : (lapBookkeeping k now s).prevFrame = s.prevFrame := by unfold lapBookkeeping; dsimp only; split_ifs <;> simp
@[simp] theorem lapBookkeeping_txBuf (k : Slot) (now : Time) : (lapBookkeeping k now s).txBuf = s.txBuf := by unfold lapBookkeeping; dsimp only; split_ifs <;> simp
@[simp] theorem lapBookkeeping_txIdx (k : Slot) (now : Time) : (lapBookkeeping k now s).txIdx = s.txIdx := by unfold lapBookkeeping; dsimp only; split_ifs <;> simp
@[simp] theorem lapBookkeeping_lastUpdate (k : Slot) (now : Time) : (lapBookkeeping k now s).lastUpdate = s.lastUpdate := by unfold lapBookkeeping; dsimp only; split_ifs <;> simp
@[simp] theorem lapBookkeeping_linkConnected (k : Slot) (now : Time) : (lapBookkeeping k now s).linkConnected = s.linkConnected := by unfold lapBookkeeping; dsimp only; split_ifs <;> simp
@[simp] theorem lapBookkeeping_opMode (k : Slot) (now : Time) : (lapBookkeeping k now s).opMode = s.opMode := by unfold lapBookkeeping; dsimp only; split_ifs <;> simp
@[simp] theorem lapBookkeeping_drive (k : Slot) (now : Time) : (lapBookkeeping k now s).drive = s.drive := by unfold lapBookkeeping; dsimp only; split_ifs <;> simp
@[simp] theorem lapBookkeeping_ledStatus (k : Slot) (now : Time) : (lapBookkeeping k now s).ledStatus = s.ledStatus := by unfold lapBookkeeping; dsimp only; split_ifs <;> simp
@[simp] theorem lapBookkeeping_ledPhase (k : Slot) (now : Time) : (lapBookkeeping k now s).ledPhase = s.ledPhase := by unfold lapBookkeeping; dsimp only; split_ifs <;> simp
@[simp] theorem lapBookkeeping_gameState (k : Slot) (now : Time) : (lapBookkeeping k now s).gameState = s.gameState := by unfold lapBookkeeping; dsimp only; split_ifs <;> simp
@[simp] theorem lapBookkeeping_targetLaps (k : Slot) (now : Time) : (lapBookkeeping k now s).targetLaps = s.targetLaps := by unfold lapBookkeeping; dsimp only; split_ifs <;> simp
@[simp] theorem lapBookkeeping_activeCarCount (k : Slot) (now : Time) : (lapBookkeeping k now s).activeCarCount = s.activeCarCount := by unfold lapBookkeeping; dsimp only; split_ifs <;> simp
@[simp] theorem lapBookkeeping_gameTime (k : Slot) (now : Time) : (lapBookkeeping k now s).gameTime = s.gameTime := by unfold lapBookkeeping; dsimp only; split_ifs <;> simp
@[simp] theorem lapBookkeeping_positions (k : Slot) (now : Time) : (lapBookkeeping k now s).positions = s.positions := by unfold lapBookkeeping; dsimp only; split_ifs <;> simp
@[simp] theorem lapBookkeeping_nextUpdate (k : Slot) (now : Time) : (lapBookkeeping k now s).nextUpdate = s.nextUpdate := by unfold lapBookkeeping; dsimp only; split_ifs <;> simp
@[simp] theorem lapBookkeeping_conn (k : Slot) (now : Time) : (lapBookkeeping k now s).conn = s.conn := by unfold lapBookkeeping; dsimp only; split_ifs <;> simp
@[simp] theorem lapBookkeeping_bindStart (k : Slot) (now : Time) : (lapBookkeeping k now s).bindStart = s.bindStart := by unfold lapBookkeeping; dsimp only; split_ifs <;> simp
@[simp] theorem lapBookkeeping_bindTarget (k : Slot) (now : Time) : (lapBookkeeping k now s).bindTarget = s.bindTarget := by unfold lapBookkeeping; dsimp only; split_ifs <;> simp
@[simp] theorem lapBookkeeping_cmdStatus (k : Slot) (now : Time) : (lapBookkeeping k now s).cmdStatus = s.cmdStatus := by unfold lapBookkeeping; dsimp only; split_ifs <;> simp
@[simp] theorem lapBookkeeping_cmdResult (k : Slot) (now : Time) : (lapBookkeeping k now s).cmdResult = s.cmdResult := by unfold lapBookkeeping; dsimp only; split_ifs <;> simp
@[simp] theorem lapBookkeeping_diagLog (k : Slot) (now : Time) : (lapBookkeeping k now s).diagLog = s.diagLog := by unfold lapBookkeeping; dsimp only; split_ifs <;> simp
@[simp] theorem lapBookkeeping_txOut (k : Slot) (now : Time) : (lapBookkeeping k now s).txOut = s.txOut := by unfold lapBookkeeping; dsimp only; split_ifs <;> simp

/-! `falseStart` -/

@[simp] theorem falseStart_params (k : Slot) : (falseStart k s).params = s.params := by simp [falseStart]
@[simp] theorem falseStart_inputs (k : Slot) : (falseStart k s).inputs = s.inputs := by simp [falseStart]
@[simp] theorem falseStart_clock (k : Slot) : (falseStart k s).clock = s.clock := by simp [falseStart]
@[simp] theorem falseStart_linkState (k : Slot) : (falseStart k s).linkState = s.linkState := by simp [falseStart]
@[simp] theorem falseStart_rxBuf (k : Slot) : (falseStart k s).rxBuf = s.rxBuf := by simp [falseStart]
@[simp] theorem falseStart_rxCount (k : Slot) : (falseStart k s).rxCount = s.rxCount := by simp [falseStart]
@[simp] theorem falseStart_prevFrame (k : Slot) : (falseStart k s).prevFrame = s.prevFrame := by simp [falseStart]
@[simp] theorem falseStart_txBuf (k : Slot) : (falseStart k s).txBuf = s.txBuf := by simp [falseStart]
@[simp] theorem falseStart_txIdx (k : Slot) : (falseStart k s).txIdx = s.txIdx := by simp [falseStart]
@[simp] theorem falseStart_lastUpdate (k : Slot) : (falseStart k s).lastUpdate = s.lastUpdate := by simp [falseStart]
@[simp] theorem falseStart_linkConnected (k : Slot) : (falseStart k s).linkConnected = s.linkConnected := by simp [falseStart]
@[simp] theorem falseStart_opMode (k : Slot) : (falseStart k s).opMode = s.opMode := by simp [falseStart]
@[simp] theorem falseStart_ledStatus (k : Slot) : (falseStart k s).ledStatus = s.ledStatus := by simp [falseStart]
@[simp] theorem falseStart_targetLaps (k : Slot) : (falseStart k s).targetLaps = s.targetLaps := by simp [falseStart]
@[simp] theorem falseStart_activeCarCount (k : Slot) : (falseStart k s).activeCarCount = s.activeCarCount := by simp [falseStart]
@[simp] theorem falseStart_gameTime (k : Slot) : (falseStart k s).gameTime = s.gameTime := by simp [falseStart]
@[simp] theorem falseStart_nextUpdate (k : Slot) : (falseStart k s).nextUpdate = s.nextUpdate := by simp [falseStart]
@[simp] theorem falseStart_conn (k : Slot) : (falseStart k s).conn = s.conn := by simp [falseStart]
@[simp] theorem falseStart_bindStart (k : Slot) : (falseStart k s).bindStart = s.bindStart := by simp [falseStart]
@[simp] theorem falseStart_bindTarget (k : Slot) : (falseStart k s).bindTarget = s.bindTarget := by simp [falseStart]
@[simp] theorem falseStart_finishPending (k : Slot) : (falseStart k s).finishPending = s.finishPending := by simp [falseStart]
@[simp] theorem falseStart_finishDeadline (k : Slot) : (falseStart k s).finishDeadline = s.finishDeadline := by simp [falseStart]
@[simp] theorem falseStart_cmdStatus (k : Slot) : (falseStart k s).cmdStatus = s.cmdStatus := by simp [falseStart]
@[simp] theorem falseStart_cmdResult (k : Slot) : (falseStart k s).cmdResult = s.cmdResult := by simp [falseStart]
@[simp] theorem falseStart_diagLog (k : Slot) : (falseStart k s).diagLog = s.diagLog := by simp [falseStart]
@[simp] theorem falseStart_txOut (k : Slot) : (falseStart k s).txOut = s.txOut := by simp [falseStart]

/-! `crossing` -/

@[simp] theorem crossing_params (k : Slot) (now : Time) : (crossing k now s).params = s.params := by unfold crossing; split_ifs <;> simp
@[simp] theorem crossing_inputs (k : Slot) (now : Time) : (crossing k now s).inputs = s.inputs := by unfold crossing; split_ifs <;> simp
@[simp] theorem crossing_clock (k : Slot) (now : Time) : (crossing k now s).clock = s.clock := by unfold crossing; split_ifs <;> simp
@[simp] theorem crossing_linkState (k : Slot) (now : Time) : (crossing k now s).linkState = s.linkState := by unfold crossing; split_ifs <;> simp
@[simp] theorem crossing_rxBuf (k : Slot) (now : Time) : (crossing k now s).rxBuf = s.rxBuf := by unfold crossing; split_ifs <;> simp
@[simp] theorem crossing_rxCount (k : Slot) (now : Time) : (crossing k now s).rxCount = s.rxCount := by unfold crossing; split_ifs <;> simp
@[simp] theorem crossing_prevFrame (k : Slot) (now : Time) : (crossing k now s).prevFrame = s.prevFrame := by unfold crossing; split_ifs <;> simp
@[simp] theorem crossing_txBuf (k : Slot) (now : Time) : (crossing k now s).txBuf = s.txBuf := by unfold crossing; split_ifs <;> simp
@[simp] theorem crossing_txIdx (k : Slot) (now : Time) : (crossing k now s).txIdx = s.txIdx := by unfold crossing; split_ifs <;> simp
@[simp] theorem crossing_lastUpdate (k : Slot) (now : Time) : (crossing k now s).lastUpdate = s.lastUpdate := by unfold crossing; split_ifs <;> simp
@[simp] theorem crossing_linkConnected (k : Slot) (now : Time) : (crossing k now s).linkConnected = s.linkConnected := by unfold crossing; split_ifs <;> simp
@[simp] theorem crossing_opMode (k : Slot) (now : Time) : (crossing k now s).opMode = s.opMode := by unfold crossing; split_ifs <;> simp
@[simp] theorem crossing_ledStatus (k : Slot) (now : Time) : (crossing k now s).ledStatus = s.ledStatus := by unfold crossing; split_ifs <;> simp
@[simp] theorem crossing_targetLaps (k : Slot) (now : Time) : (crossing k now s).targetLaps = s.targetLaps := by unfold crossing; split_ifs <;> simp
@[simp] theorem crossing_activeCarCount (k : Slot) (now : Time) : (crossing k now s).activeCarCount = s.activeCarCount := by unfold crossing; split_ifs <;> simp
@[simp] theorem crossing_gameTime (k : Slot) (now : Time) : (crossing k now s).gameTime = s.gameTime := by unfold crossing; split_ifs <;> simp
@[simp] theorem crossing_nextUpdate (k : Slot) (now : Time) : (crossing k now s).nextUpdate = s.nextUpdate := by unfold crossing; split_ifs <;> simp
@[simp] theorem crossing_conn (k : Slot) (now : Time) : (crossing k now s).conn = s.conn := by unfold crossing; split_ifs <;> simp
@[simp] theorem crossing_bindStart (k : Slot) (now : Time) : (crossing k now s).bindStart = s.bindStart := by unfold crossing; split_ifs <;> simp
@[simp] theorem crossing_bindTarget (k : Slot) (now : Time) : (crossing k now s).bindTarget = s.bindTarget := by unfold crossing; split_ifs <;> simp
@[simp] theorem crossing_cmdStatus (k : Slot) (now : Time) : (crossing k now s).cmdStatus = s.cmdStatus := by unfold crossing; split_ifs <;> simp
@[simp] theorem crossing_cmdResult (k : Slot) (now : Time) : (crossing k now s).cmdResult = s.cmdResult := by unfold crossing; split_ifs <;> simp
@[simp] theorem crossing_diagLog (k : Slot) (now : Time) : (crossing k now s).diagLog = s.diagLog := by unfold crossing; split_ifs <;> simp
@[simp] theorem crossing_txOut (k : Slot) (now : Time) : (crossing k now s).txOut = s.txOut := by unfold crossing; split_ifs <;> simp

/-! `updateCheck` -/

@[simp] theorem updateCheck_params (now : Time) : (updateCheck now s).params = s.params := by unfold updateCheck; split <;> simp
@[simp] theorem updateCheck_inputs (now : Time) : (updateCheck now s).inputs = s.inputs := by unfold updateCheck; split <;> simp
@[simp] theorem updateCheck_clock (now : Time) : (updateCheck now s).clock = s.clock := by unfold updateCheck; split <;> simp
@[simp] theorem updateCheck_linkState (now : Time) : (updateCheck now s).linkState = s.linkState := by unfold updateCheck; split <;> simp
@[simp] theorem updateCheck_rxBuf (now : Time) : (updateCheck now s).rxBuf = s.rxBuf := by unfold updateCheck; split <;> simp
@[simp] theorem updateCheck_rxCount (now : Time) : (updateCheck now s).rxCount = s.rxCount := by unfold updateCheck; split <;> simp
@[simp] theorem updateCheck_prevFrame (now : Time) : (updateCheck now s).prevFrame = s.prevFrame := by unfold updateCheck; split <;> simp
@[simp] theorem updateCheck_txBuf (now : Time) : (updateCheck now s).txBuf = s.txBuf := by unfold updateCheck; split <;> simp
@[simp] theorem updateCheck_txIdx (now : Time) : (updateCheck now s).txIdx = s.txIdx := by unfold updateCheck; split <;> simp
@[simp] theorem updateCheck_lastUpdate (now : Time) : (updateCheck now s).lastUpdate = s.lastUpdate := by unfold updateCheck; split <;> simp
@[simp] theorem updateCheck_linkConnected (now : Time) : (updateCheck now s).linkConnected = s.linkConnected := by unfold updateCheck; split <;> simp
@[simp] theorem updateCheck_opMode (now : Time) : (updateCheck now s).opMode = s.opMode := by unfold updateCheck; split <;> simp
@[simp] theorem updateCheck_drive (now : Time) : (updateCheck now s).drive = s.drive := by unfold updateCheck; split <;> simp
@[simp] theorem updateCheck_ledStatus (now : Time) : (updateCheck now s).ledStatus = s.ledStatus := by unfold updateCheck; split <;> simp
@[simp] theorem updateCheck_ledPhase (now : Time) : (updateCheck now s).ledPhase = s.ledPhase := by unfold updateCheck; split <;> simp
@[simp] theorem updateCheck_gameState (now : Time) : (updateCheck now s).gameState = s.gameState := by unfold updateCheck; split <;> simp
@[simp] theorem updateCheck_targetLaps (now : Time) : (updateCheck now s).targetLaps = s.targetLaps := by unfold updateCheck; split <;> simp
@[simp] theorem updateCheck_activeCarCount (now : Time) : (updateCheck now s).activeCarCount = s.activeCarCount := by unfold updateCheck; split <;> simp
@[simp] theorem updateCheck_finishedCarCount (now : Time) : (updateCheck now s).finishedCarCount = s.finishedCarCount := by unfold updateCheck; split <;> simp
@[simp] theorem updateCheck_gameTime (now : Time) : (updateCheck now s).gameTime = s.gameTime := by unfold updateCheck; split <;> simp
@[simp] theorem updateCheck_cars (now : Time) : (updateCheck now s).cars = s.cars := by unfold updateCheck; split <;> simp
@[simp] theorem updateCheck_conn (now : Time) : (updateCheck now s).conn = s.conn := by unfold updateCheck; split <;> simp
@[simp] theorem updateCheck_bindStart (now : Time) : (updateCheck now s).bindStart = s.bindStart := by unfold updateCheck; split <;> simp
@[simp] theorem updateCheck_bindTarget (now : Time) : (updateCheck now s).bindTarget = s.bindTarget := by unfold updateCheck; split <;> simp
@[simp] theorem updateCheck_finishPending (now : Time) : (updateCheck now s).finishPending = s.finishPending := by unfold updateCheck; split <;> simp
@[simp] theorem updateCheck_finishDeadline (now : Time) : (updateCheck now s).finishDeadline = s.finishDeadline := by unfold updateCheck; split <;> simp
@[simp] theorem updateCheck_cmdStatus (now : Time) : (updateCheck now s).cmdStatus = s.cmdStatus := by unfold updateCheck; split <;> simp
@[simp] theorem updateCheck_cmdResult (now : Time) : (updateCheck now s).cmdResult = s.cmdResult := by unfold updateCheck; split <;> simp
@[simp] theorem updateCheck_diagLog (now : Time) : (updateCheck now s).diagLog = s.diagLog := by unfold updateCheck; split <;> simp
@[simp] theorem updateCheck_txOut (now : Time) : (updateCheck now s).txOut = s.txOut := by unfold updateCheck; split <;> simp

/-! `crossingStep` -/

@[simp] theorem crossingStep_params (f g : InFrame) : (crossingStep f g s).params = s.params := by
  unfold crossingStep; dsimp only; split; · rfl
  · cases crossingSlot (carIn f) <;> simp <;> split <;> simp
@[simp] theorem crossingStep_inputs (f g : InFrame) : (crossingStep f g s).inputs = s.inputs := by
  unfold crossingStep; dsimp only; split; · rfl
  · cases crossingSlot (carIn f) <;> simp <;> split <;> simp
@[simp] theorem crossingStep_clock (f g : InFrame) : (crossingStep f g s).clock = s.clock := by
  unfold crossingStep; dsimp only; split; · rfl
  · cases crossingSlot (carIn f) <;> simp <;> split <;> simp
@[simp] theorem crossingStep_linkState (f g : InFrame) : (crossingStep f g s).linkState = s.linkState := by
  unfold crossingStep; dsimp only; split; · rfl
  · cases crossingSlot (carIn f) <;> simp <;> split <;> simp
@[simp] theorem crossingStep_rxBuf (f g : InFrame) : (crossingStep f g s).rxBuf = s.rxBuf := by
  unfold crossingStep; dsimp only; split; · rfl
  · cases crossingSlot (carIn f) <;> simp <;> split <;> simp
@[simp] theorem crossingStep_rxCount (f g : InFrame) : (crossingStep f g s).rxCount = s.rxCount := by
  unfold crossingStep; dsimp only; split; · rfl
  · cases crossingSlot (carIn f) <;> simp <;> split <;> simp
@[simp] theorem crossingStep_prevFrame (f g : InFrame) : (crossingStep f g s).prevFrame = s.prevFrame := by
  unfold crossingStep; dsimp only; split; · rfl
  · cases crossingSlot (carIn f) <;> simp <;> split <;> simp
@[simp] theorem crossingStep_txBuf (f g : InFrame) : (crossingStep f g s).txBuf = s.txBuf := by
  unfold crossingStep; dsimp only; split; · rfl
  · cases crossingSlot (carIn f) <;> simp <;> split <;> simp
@[simp] theorem crossingStep_txIdx (f g : InFrame) : (crossingStep f g s).txIdx = s.txIdx := by
  unfold crossingStep; dsimp only; split; · rfl
  · cases crossingSlot (carIn f) <;> simp <;> split <;> simp
@[simp] theorem crossingStep_lastUpdate (f g : InFrame) : (crossingStep f g s).lastUpdate = s.lastUpdate := by
  unfold crossingStep; dsimp only; split; · rfl
  · cases crossingSlot (carIn f) <;> simp <;> split <;> simp
@[simp] theorem crossingStep_linkConnected (f g : InFrame) : (crossingStep f g s).linkConnected = s.linkConnected := by
  unfold crossingStep; dsimp only; split; · rfl
  · cases crossingSlot (carIn f) <;> simp <;> split <;> simp
@[simp] theorem crossingStep_opMode (f g : InFrame) : (crossingStep f g s).opMode = s.opMode := by
  unfold crossingStep; dsimp only; split; · rfl
  · cases crossingSlot (carIn f) <;> simp <;> split <;> simp
@[simp] theorem crossingStep_ledStatus (f g : InFrame) : (crossingStep f g s).ledStatus = s.ledStatus := by
  unfold crossingStep; dsimp only; split; · rfl
  · cases crossingSlot (carIn f) <;> simp <;> split <;> simp
@[simp] theorem crossingStep_targetLaps (f g : InFrame) : (crossingStep f g s).targetLaps = s.targetLaps := by
  unfold crossingStep; dsimp only; split; · rfl
  · cases crossingSlot (carIn f) <;> simp <;> split <;> simp
@[simp] theorem crossingStep_activeCarCount (f g : InFrame) : (crossingStep f g s).activeCarCount = s.activeCarCount := by
  unfold crossingStep; dsimp only; split; · rfl
  · cases crossingSlot (carIn f) <;> simp <;> split <;> simp
@[simp] theorem crossingStep_conn (f g : InFrame) : (crossingStep f g s).conn = s.conn := by
  unfold crossingStep; dsimp only; split; · rfl
  · cases crossingSlot (carIn f) <;> simp <;> split <;> simp
@[simp] theorem crossingStep_bindStart (f g : InFrame) : (crossingStep f g s).bindStart = s.bindStart := by
  unfold crossingStep; dsimp only; split; · rfl
  · cases crossingSlot (carIn f) <;> simp <;> split <;> simp
@[simp] theorem crossingStep_bindTarget (f g : InFrame) : (crossingStep f g s).bindTarget = s.bindTarget := by
  unfold crossingStep; dsimp only; split; · rfl
  · cases crossingSlot (carIn f) <;> simp <;> split <;> simp
@[simp] theorem crossingStep_cmdStatus (f g : InFrame) : (crossingStep f g s).cmdStatus = s.cmdStatus := by
  unfold crossingStep; dsimp only; split; · rfl
  · cases crossingSlot (carIn f) <;> simp <;> split <;> simp
@[simp] theorem crossingStep_cmdResult (f g : InFrame) : (crossingStep f g s).cmdResult = s.cmdResult := by
  unfold crossingStep; dsimp only; split; · rfl
  · cases crossingSlot (carIn f) <;> simp <;> split <;> simp
@[simp] theorem crossingStep_diagLog (f g : InFrame) : (crossingStep f g s).diagLog = s.diagLog := by
  unfold crossingStep; dsimp only; split; · rfl
  · cases crossingSlot (carIn f) <;> simp <;> split <;> simp
@[simp] theorem crossingStep_txOut (f g : InFrame) : (crossingStep f g s).txOut = s.txOut := by
  unfold crossingStep; dsimp only; split; · rfl
  · cases crossingSlot (carIn f) <;> simp <;> split <;> simp

/-! `buttonStep` -/

@[simp] theorem buttonStep_params (f g : InFrame) : (buttonStep f g s).params = s.params := by
  unfold buttonStep; split; · rfl
  · split <;> simp
@[simp] theorem buttonStep_inputs (f g : InFrame) : (buttonStep f g s).inputs = s.inputs := by
  unfold buttonStep; split; · rfl
  · split <;> simp
@[simp] theorem buttonStep_clock (f g : InFrame) : (buttonStep f g s).clock = s.clock := by
  unfold buttonStep; split; · rfl
  · split <;> simp
@[simp] theorem buttonStep_linkState (f g : InFrame) : (buttonStep f g s).linkState = s.linkState := by
  unfold buttonStep; split; · rfl
  · split <;> simp
@[simp] theorem buttonStep_rxBuf (f g : InFrame) : (buttonStep f g s).rxBuf = s.rxBuf := by
  unfold buttonStep; split; · rfl
  · split <;> simp
@[simp] theorem buttonStep_rxCount (f g : InFrame) : (buttonStep f g s).rxCount = s.rxCount := by
  unfold buttonStep; split; · rfl
  · split <;> simp
@[simp] theorem buttonStep_prevFrame (f g : InFrame) : (buttonStep f g s).prevFrame = s.prevFrame := by
  unfold buttonStep; split; · rfl
  · split <;> simp
@[simp] theorem buttonStep_txBuf (f g : InFrame) : (buttonStep f g s).txBuf = s.txBuf := by
  unfold buttonStep; split; · rfl
  · split <;> simp
@[simp] theorem buttonStep_txIdx (f g : InFrame) : (buttonStep f g s).txIdx = s.txIdx := by
  unfold buttonStep; split; · rfl
  · split <;> simp
@[simp] theorem buttonStep_lastUpdate (f g : InFrame) : (buttonStep f g s).lastUpdate = s.lastUpdate := by
  unfold buttonStep; split; · rfl
  · split <;> simp
@[simp] theorem buttonStep_linkConnected (f g : InFrame) : (buttonStep f g s).linkConnected = s.linkConnected := by
  unfold buttonStep; split; · rfl
  · split <;> simp
@[simp] theorem buttonStep_opMode (f g : InFrame) : (buttonStep f g s).opMode = s.opMode := by
  unfold buttonStep; split; · rfl
  · split <;> simp
@[simp] theorem buttonStep_drive (f g : InFrame) : (buttonStep f g s).drive = s.drive := by
  unfold buttonStep; split; · rfl
  · split <;> simp
@[simp] theorem buttonStep_ledStatus (f g : InFrame) : (buttonStep f g s).ledStatus = s.ledStatus := by
  unfold buttonStep; split; · rfl
  · split <;> simp
@[simp] theorem buttonStep_ledPhase (f g : InFrame) : (buttonStep f g s).ledPhase = s.ledPhase := by
  unfold buttonStep; split; · rfl
  · split <;> simp
@[simp] theorem buttonStep_gameState (f g : InFrame) : (buttonStep f g s).gameState = s.gameState := by
  unfold buttonStep; split; · rfl
  · split <;> simp
@[simp] theorem buttonStep_targetLaps (f g : InFrame) : (buttonStep f g s).targetLaps = s.targetLaps := by
  unfold buttonStep; split; · rfl
  · split <;> simp
@[simp] theorem buttonStep_activeCarCount (f g : InFrame) : (buttonStep f g s).activeCarCount = s.activeCarCount := by
  unfold buttonStep; split; · rfl
  · split <;> simp
@[simp] theorem buttonStep_finishedCarCount (f g : InFrame) : (buttonStep f g s).finishedCarCount = s.finishedCarCount := by
  unfold buttonStep; split; · rfl
  · split <;> simp
@[simp] theorem buttonStep_gameTime (f g : InFrame) : (buttonStep f g s).gameTime = s.gameTime := by
  unfold buttonStep; split; · rfl
  · split <;> simp
@[simp] theorem buttonStep_positions (f g : InFrame) : (buttonStep f g s).positions = s.positions := by
  unfold buttonStep; split; · rfl
  · split <;> simp
@[simp] theorem buttonStep_nextUpdate (f g : InFrame) : (buttonStep f g s).nextUpdate = s.nextUpdate := by
  unfold buttonStep; split; · rfl
  · split <;> simp
@[simp] theorem buttonStep_cars (f g : InFrame) : (buttonStep f g s).cars = s.cars := by
  unfold buttonStep; split; · rfl
  · split <;> simp
@[simp] theorem buttonStep_conn (f g : InFrame) : (buttonStep f g s).conn = s.conn := by
  unfold buttonStep; split; · rfl
  · split <;> simp
@[simp] theorem buttonStep_bindStart (f g : InFrame) : (buttonStep f g s).bindStart = s.bindStart := by
  unfold buttonStep; split; · rfl
  · split <;> simp
@[simp] theorem buttonStep_bindTarget (f g : InFrame) : (buttonStep f g s).bindTarget = s.bindTarget := by
  unfold buttonStep; split; · rfl
  · split <;> simp
@[simp] theorem buttonStep_finishPending (f g : InFrame) : (buttonStep f g s).finishPending = s.finishPending := by
  unfold buttonStep; split; · rfl
  · split <;> simp
@[simp] theorem buttonStep_finishDeadline (f g : InFrame) : (buttonStep f g s).finishDeadline = s.finishDeadline := by
  unfold buttonStep; split; · rfl
  · split <;> simp
@[simp] theorem buttonStep_cmdStatus (f g : InFrame) : (buttonStep f g s).cmdStatus = s.cmdStatus := by
  unfold buttonStep; split; · rfl
  · split <;> simp
@[simp] theorem buttonStep_cmdResult (f g : InFrame) : (buttonStep f g s).cmdResult = s.cmdResult := by
  unfold buttonStep; split; · rfl
  · split <;> simp
@[simp] theorem buttonStep_diagLog (f g : InFrame) : (buttonStep f g s).diagLog = s.diagLog := by
  unfold buttonStep; split; · rfl
  · split <;> simp
@[simp] theorem buttonStep_txOut (f g : InFrame) : (buttonStep f g s).txOut = s.txOut := by
  unfold buttonStep; split; · rfl
  · split <;> simp

/-! `onFrame` -/

@[simp] theorem onFrame_params (f g : InFrame) : (onFrame f g s).params = s.params := by unfold onFrame; split <;> simp
@[simp] theorem onFrame_inputs (f g : InFrame) : (onFrame f g s).inputs = s.inputs := by unfold onFrame; split <;> simp
@[simp] theorem onFrame_clock (f g : InFrame) : (onFrame f g s).clock = s.clock := by unfold onFrame; split <;> simp
@[simp] theorem onFrame_linkState (f g : InFrame) : (onFrame f g s).linkState = s.linkState := by unfold onFrame; split <;> simp
@[simp] theorem onFrame_rxBuf (f g : InFrame) : (onFrame f g s).rxBuf = s.rxBuf := by unfold onFrame; split <;> simp
@[simp] theorem onFrame_rxCount (f g : InFrame) : (onFrame f g s).rxCount = s.rxCount := by unfold onFrame; split <;> simp
@[simp] theorem onFrame_prevFrame (f g : InFrame) : (onFrame f g s).prevFrame = s.prevFrame := by unfold onFrame; split <;> simp
@[simp] theorem onFrame_txBuf (f g : InFrame) : (onFrame f g s).txBuf = s.txBuf := by unfold onFrame; split <;> simp
@[simp] theorem onFrame_txIdx (f g : InFrame) : (onFrame f g s).txIdx = s.txIdx := by unfold onFrame; split <;> simp
@[simp] theorem onFrame_lastUpdate (f g : InFrame) : (onFrame f g s).lastUpdate = s.lastUpdate := by unfold onFrame; split <;> simp
@[simp] theorem onFrame_linkConnected (f g : InFrame) : (onFrame f g s).linkConnected = s.linkConnected := by unfold onFrame; split <;> simp
@[simp] theorem onFrame_opMode (f g : InFrame) : (onFrame f g s).opMode = s.opMode := by unfold onFrame; split <;> simp
@[simp] theorem onFrame_targetLaps (f g : InFrame) : (onFrame f g s).targetLaps = s.targetLaps := by unfold onFrame; split <;> simp
@[simp] theorem onFrame_activeCarCount (f g : InFrame) : (onFrame f g s).activeCarCount = s.activeCarCount := by unfold onFrame; split <;> simp
@[simp] theorem onFrame_bindStart (f g : InFrame) : (onFrame f g s).bindStart = s.bindStart := by unfold onFrame; split <;> simp
@[simp] theorem onFrame_bindTarget (f g : InFrame) : (onFrame f g s).bindTarget = s.bindTarget := by unfold onFrame; split <;> simp
@[simp] theorem onFrame_cmdStatus (f g : InFrame) : (onFrame f g s).cmdStatus = s.cmdStatus := by unfold onFrame; split <;> simp
@[simp] theorem onFrame_cmdResult (f g : InFrame) : (onFrame f g s).cmdResult = s.cmdResult := by unfold onFrame; split <;> simp
@[simp] theorem onFrame_diagLog (f g : InFrame) : (onFrame f g s).diagLog = s.diagLog := by unfold onFrame; split <;> simp
@[simp] theorem onFrame_txOut (f g : InFrame) : (onFrame f g s).txOut = s.txOut := by unfold onFrame; split <;> simp

/-! `connectCheck` -/

@[simp] theorem connectCheck_params : (connectCheck s).params = s.params := by unfold connectCheck; split <;> simp
@[simp] theorem connectCheck_inputs : (connectCheck s).inputs = s.inputs := by unfold connectCheck; split <;> simp
@[simp] theorem connectCheck_clock : (connectCheck s).clock = s.clock := by unfold connectCheck; split <;> simp
@[simp] theorem connectCheck_linkState : (connectCheck s).linkState = s.linkState := by unfold connectCheck; split <;> simp
@[simp] theorem connectCheck_rxBuf : (connectCheck s).rxBuf = s.rxBuf := by unfold connectCheck; split <;> simp
@[simp] theorem connectCheck_rxCount : (connectCheck s).rxCount = s.rxCount := by unfold connectCheck; split <;> simp
@[simp] theorem connectCheck_prevFrame : (connectCheck s).prevFrame = s.prevFrame := by unfold connectCheck; split <;> simp
@[simp] theorem connectCheck_txBuf : (connectCheck s).txBuf = s.txBuf := by unfold connectCheck; split <;> simp
@[simp] theorem connectCheck_txIdx : (connectCheck s).txIdx = s.txIdx := by unfold connectCheck; split <;> simp
@[simp] theorem connectCheck_lastUpdate : (connectCheck s).lastUpdate = s.lastUpdate := by unfold connectCheck; split <;> simp
@[simp] theorem connectCheck_opMode : (connectCheck s).opMode = s.opMode := by unfold connectCheck; split <;> simp
@[simp] theorem connectCheck_drive : (connectCheck s).drive = s.drive := by unfold connectCheck; split <;> simp
@[simp] theorem connectCheck_ledStatus : (connectCheck s).ledStatus = s.ledStatus := by unfold connectCheck; split <;> simp
@[simp] theorem connectCheck_gameState : (connectCheck s).gameState = s.gameState := by unfold connectCheck; split <;> simp
@[simp] theorem connectCheck_targetLaps : (connectCheck s).targetLaps = s.targetLaps := by unfold connectCheck; split <;> simp
@[simp] theorem connectCheck_activeCarCount : (connectCheck s).activeCarCount = s.activeCarCount := by unfold connectCheck; split <;> simp
@[simp] theorem connectCheck_gameTime : (connectCheck s).gameTime = s.gameTime := by unfold connectCheck; split <;> simp
@[simp] theorem connectCheck_nextUpdate : (connectCheck s).nextUpdate = s.nextUpdate := by unfold connectCheck; split <;> simp
@[simp] theorem connectCheck_conn : (connectCheck s).conn = s.conn := by unfold connectCheck; split <;> simp
@[simp] theorem connectCheck_bindStart : (connectCheck s).bindStart = s.bindStart := by unfold connectCheck; split <;> simp
@[simp] theorem connectCheck_bindTarget : (connectCheck s).bindTarget = s.bindTarget := by unfold connectCheck; split <;> simp
@[simp] theorem connectCheck_finishPending : (connectCheck s).finishPending = s.finishPending := by unfold connectCheck; split <;> simp
@[simp] theorem connectCheck_finishDeadline : (connectCheck s).finishDeadline = s.finishDeadline := by unfold connectCheck; split <;> simp
@[simp] theorem connectCheck_cmdStatus : (connectCheck s).cmdStatus = s.cmdStatus := by unfold connectCheck; split <;> simp
@[simp] theorem connectCheck_cmdResult : (connectCheck s).cmdResult = s.cmdResult := by unfold connectCheck; split <;> simp
@[simp] theorem connectCheck_eventQ : (connectCheck s).eventQ = s.eventQ := by unfold connectCheck; split <;> simp
@[simp] theorem connectCheck_txOut : (connectCheck s).txOut = s.txOut := by unfold connectCheck; split <;> simp
@[simp] theorem connectCheck_fault : (connectCheck s).fault = s.fault := by unfold connectCheck; split <;> simp

end Sys2Proof.Machine
end

