-- ==== Sys2Proof/Laws/Ops.lean ====
section
/-! SUPPORT. What the shared operations leave in the fields they write, one lemma per operation, and how the records they
raise compose. Proofs cite these instead of unfolding an operation. -/

namespace Sys2Proof.Machine

variable (s : State)

/-! Bits of a byte. -/

theorem readBit_writeBit (b : Byte) (i j : Fin 8) (x : Bool) :
    readBit (writeBit b i x) j = if j = i then x else readBit b j := by
  have hj := j.isLt
  unfold readBit writeBit
  rcases eq_or_ne j i with rfl | h
  · cases x <;> simp
  · have : j.val ≠ i.val := fun e => h (Fin.ext e)
    cases x <;> simp [h] <;> omega

theorem writeLed_bit (i j : Fin 8) (x : Bool) :
    (writeLed i x s).ledStatus.getLsbD j.val =
      if j = i then (x ^^ s.params.ledActiveLow) else s.ledStatus.getLsbD j.val :=
  readBit_writeBit s.ledStatus i j _

/-! Loops over the slots. -/

/-- The six turns of a loop, slot 0 first. -/
theorem forSlots_eq (f : Slot → State → State) : forSlots f s = f 5 (f 4 (f 3 (f 2 (f 1 (f 0 s))))) := rfl

/-- What every turn of a loop keeps, the loop keeps. -/
theorem forSlots_induction (P : State → Prop) (f : Slot → State → State) (h : ∀ i u, P u → P (f i u)) (hs : P s) :
    P (forSlots f s) := by
  simp only [forSlots_eq]
  exact h _ _ (h _ _ (h _ _ (h _ _ (h _ _ (h _ _ hs)))))

/-- Setting every entry in turn builds the whole vector. -/
theorem set_all_eq_ofFn {α : Type} (v : Vector α 6) (d : Slot → α) :
    (((((v.set 0 (d 0)).set 1 (d 1)).set 2 (d 2)).set 3 (d 3)).set 4 (d 4)).set 5 (d 5) = Vector.ofFn d := by
  ext i hi
  simp only [Vector.getElem_set, Vector.getElem_ofFn]
  match i, hi with
  | 0, _ => rfl
  | 1, _ => rfl
  | 2, _ => rfl
  | 3, _ => rfl
  | 4, _ => rfl
  | 5, _ => rfl

/-! Drive bytes. -/

/-- `s` with other drive bytes: the one shape every drive operation leaves. -/
def withDrive (d : PerSlot Byte) (s : State) : State := { s with drive := d }

@[simp] theorem withDrive_withDrive (d e : PerSlot Byte) : withDrive d (withDrive e s) = withDrive d s := rfl
@[simp] theorem withDrive_drive (d : PerSlot Byte) : (withDrive d s).drive = d := rfl

theorem driveModify_eq (i : Slot) (g : Byte → Byte) :
    driveModify i g s = withDrive (s.drive.set i (~~~ g (~~~ s.drive[i]))) s := rfl

/-- A loop whose turn on slot `i` writes drive byte `i` alone, from that byte alone, writes them all at once. -/
theorem forSlots_drive (f : Slot → State → State) (d : Slot → Byte)
    (h : ∀ i (v : PerSlot Byte), v[i] = s.drive[i] → f i (withDrive v s) = withDrive (v.set i (d i)) s) :
    forSlots f s = withDrive (Vector.ofFn d) s := by
  have h0 : f 0 s = withDrive (s.drive.set 0 (d 0)) s := h 0 s.drive rfl
  rw [forSlots_eq, h0, h 1 _ (by simp), h 2 _ (by simp), h 3 _ (by simp), h 4 _ (by simp), h 5 _ (by simp)]
  exact congrArg (withDrive · s) (set_all_eq_ofFn s.drive d)

theorem cutPower_eq : cutPower s = withDrive (Vector.ofFn fun i => ~~~(~~~ s.drive[i] &&& 0x80#8)) s :=
  forSlots_drive s _ _ fun i v hi => by simp only [driveModify_eq, withDrive_drive, withDrive_withDrive, hi]

theorem driveModify_get (i j : Slot) (g : Byte → Byte) :
    (driveModify i g s).drive[j] = if j = i then ~~~ g (~~~ s.drive[i]) else s.drive[j] := by
  simp only [driveModify_drive, Fin.getElem_fin, Vector.getElem_set]
  by_cases h : j = i
  · subst h; simp
  · have : ¬ i.val = j.val := fun e => h (Fin.ext e.symm)
    simp [h, this]

theorem updateCar_get (i j : Slot) (g : CarState → CarState) :
    (updateCar i g s).cars[j] = if j = i then g s.cars[i] else s.cars[j] := by
  simp only [updateCar_cars, Fin.getElem_fin, Vector.getElem_set]
  by_cases h : j = i
  · subst h; simp
  · have : ¬ i.val = j.val := fun e => h (Fin.ext e.symm)
    simp [h, this]

theorem raceDataReset_resetRaceData : RaceDataReset s (resetRaceData s) :=
  ⟨fun i => by simp [clearedCar], rfl, rfl⟩

/-! The event queue. -/

/-- Nothing raised. -/
theorem Raises.refl : Raises s s [] := ⟨rfl, rfl⟩

/-- `enqueue` raises its record. -/
theorem raises_enqueue (e : Event) : Raises s (enqueue e s) [e] := by
  unfold Raises enqueue evqFull
  cases s.params.evqDepth with
  | none => simp [offer]
  | some d => by_cases hd : d ≤ s.eventQ.length <;> simp [offer, hd, setEvqOverflow]

variable {s}

/-- Records raised one step after another. -/
theorem Raises.trans {t u : State} {a b : List Event} (h : Raises s t a) (k : Raises t u b) (hp : t.params = s.params) :
    Raises s u (a ++ b) := by
  refine ⟨?_, k.2.trans h.2⟩
  rw [k.1, List.foldl_append, ← h.1, hp]

/-- What is raised depends on the parameters, the queue and the fault bits alone. -/
theorem Raises.congr {s' t t' : State} {a : List Event} (h : Raises s t a) (hp : s'.params = s.params)
    (hq : s'.eventQ = s.eventQ) (hf : s'.fault = s.fault) (hq' : t'.eventQ = t.eventQ) (hf' : t'.fault = t.fault) :
    Raises s' t' a := by
  unfold Raises at *
  rw [hp, hq, hf, hq', hf']
  exact h

variable (s)

/-! Transitions. -/

/-- No change: nothing happens (R170). -/
theorem setState_same {g : GameState} (h : s.gameState = g) : setState g s = s := by
  simp [setState, h]

/-- `s` in game state `g` with the change raised: what every entry effect starts from. -/
def changed (g : GameState) (s : State) : State := enqueue (.stateChange g) { s with gameState := g }

@[simp] theorem changed_gameState (g : GameState) : (changed g s).gameState = g := by simp [changed]
@[simp] theorem changed_drive (g : GameState) : (changed g s).drive = s.drive := by simp [changed]
@[simp] theorem changed_cars (g : GameState) : (changed g s).cars = s.cars := by simp [changed]
@[simp] theorem changed_params (g : GameState) : (changed g s).params = s.params := by simp [changed]

/-- Entering RACE: the event alone (C3). -/
theorem setState_race (h : s.gameState ≠ .race) : setState .race s = changed .race s := by
  have h' : ¬ GameState.race = s.gameState := fun e => h e.symm
  simp [setState, h', changed, entryResetsRaceData]

/-- Entering STOPPED: the event, the LED reset and the power cut. -/
theorem setState_stopped (h : s.gameState ≠ .stopped) :
    setState .stopped s = cutPower (requestLedReset (changed .stopped s)) := by
  have h' : ¬ GameState.stopped = s.gameState := fun e => h e.symm
  simp [setState, h', changed, entryResetsRaceData]

/-- Entering COUNTDOWN, STARTING, TRAINING or BINDING: the event, the LED reset and the race-data reset. -/
theorem setState_resetting {g : GameState} (h : s.gameState ≠ g) (hr : g ≠ .race) (hs : g ≠ .stopped) :
    setState g s = resetRaceData (requestLedReset (changed g s)) := by
  have h' : ¬ g = s.gameState := fun e => h e.symm
  cases g <;> simp_all [setState, changed, entryResetsRaceData]

@[simp] theorem setState_gameState (g : GameState) : (setState g s).gameState = g := by
  unfold setState
  split
  · rename_i h; exact h.symm
  · cases g <;> simp [entryResetsRaceData]

/-- A change raises its event (R170). -/
theorem raises_changed (g : GameState) : Raises s (changed g s) [.stateChange g] :=
  (raises_enqueue { s with gameState := g } (.stateChange g)).congr rfl rfl rfl rfl rfl

/-- `set_state` raises its event on a change and nothing otherwise (R170). -/
theorem raises_setState (g : GameState) : Raises s (setState g s) (changeTo s g) := by
  unfold changeTo
  by_cases h : s.gameState = g
  · rw [if_pos h, setState_same s h]; exact .refl s
  · rw [if_neg h]
    by_cases hr : g = .race
    · subst hr; rw [setState_race s h]; exact raises_changed s _
    · by_cases hs : g = .stopped
      · subst hs; rw [setState_stopped s h]
        exact (raises_changed s _).congr rfl rfl rfl (by simp) (by simp)
      · rw [setState_resetting s h hr hs]
        exact (raises_changed s _).congr rfl rfl rfl (by simp) (by simp)

/-- The LED-reset phase `set_state` leaves: cycle 1 on a change to any state but RACE (R170, C3). -/
theorem setState_ledPhase (g : GameState) :
    (setState g s).ledPhase = if s.gameState = g ∨ g = .race then s.ledPhase else .cycle1 := by
  by_cases h : s.gameState = g
  · rw [setState_same s h]; simp [h]
  · by_cases hr : g = .race
    · subst hr; rw [setState_race s h]; simp [changed]
    · by_cases hs : g = .stopped
      · subst hs; rw [setState_stopped s h]; simp [h]
      · rw [setState_resetting s h hr hs]; simp [h, hr]

/-! Entering WRITE (R147 to R149). -/

/-- `s` with the LEDs of cycle 2 and the update deadline cleared, before the promotion of STARTING (R149). -/
def cycle2Leds (s : State) : State :=
  { writeLed s.params.ledGreenBit true (writeLed s.params.ledRedBit false s) with nextUpdate := 0, ledPhase := .idle }

@[simp] theorem cycle2Leds_gameState : (cycle2Leds s).gameState = s.gameState := rfl
@[simp] theorem cycle2Leds_drive : (cycle2Leds s).drive = s.drive := rfl
@[simp] theorem cycle2Leds_cars : (cycle2Leds s).cars = s.cars := rfl
@[simp] theorem cycle2Leds_positions : (cycle2Leds s).positions = s.positions := rfl
@[simp] theorem cycle2Leds_finishedCarCount : (cycle2Leds s).finishedCarCount = s.finishedCarCount := rfl

/-- Cycle 2 in STARTING: the LED byte and the deadline, then RACE (R149). -/
theorem ledCycle2_starting (h : s.gameState = .starting) : ledCycle2 s = changed .race (cycle2Leds s) := by
  have e : ledCycle2 s = setState .race (cycle2Leds s) := if_pos h
  rw [e, setState_race _ (by simp [h])]

/-- Cycle 2 in any other state: the LED byte and the deadline alone (R149). -/
theorem ledCycle2_other (h : s.gameState ≠ .starting) : ledCycle2 s = cycle2Leds s := if_neg h

@[simp] theorem ledCycle2_drive : (ledCycle2 s).drive = s.drive := by
  by_cases h : s.gameState = .starting
  · rw [ledCycle2_starting s h]; simp [changed]
  · rw [ledCycle2_other s h]; simp

@[simp] theorem ledCycle2_cars : (ledCycle2 s).cars = s.cars := by
  by_cases h : s.gameState = .starting
  · rw [ledCycle2_starting s h]; simp [changed]
  · rw [ledCycle2_other s h]; simp

@[simp] theorem ledCycle2_positions : (ledCycle2 s).positions = s.positions := by
  by_cases h : s.gameState = .starting
  · rw [ledCycle2_starting s h]; simp [changed]
  · rw [ledCycle2_other s h]; simp

@[simp] theorem ledCycle2_finishedCarCount : (ledCycle2 s).finishedCarCount = s.finishedCarCount := by
  by_cases h : s.gameState = .starting
  · rw [ledCycle2_starting s h]; simp [changed]
  · rw [ledCycle2_other s h]; simp

@[simp] theorem ledCycle_drive : (ledCycle s).drive = s.drive := by unfold ledCycle; split <;> simp
@[simp] theorem ledCycle_cars : (ledCycle s).cars = s.cars := by unfold ledCycle; split <;> simp
@[simp] theorem ledCycle_positions : (ledCycle s).positions = s.positions := by unfold ledCycle; split <;> simp
@[simp] theorem ledCycle_finishedCarCount : (ledCycle s).finishedCarCount = s.finishedCarCount := by
  unfold ledCycle; split <;> simp

/-- What `enter_write` writes beside the LED cycle (R147). -/
theorem enterWrite_eq :
    enterWrite s = { ledCycle s with
      txBuf := encodeOut s.params s.opMode s.drive (ledCycle s).ledStatus, txIdx := 0, linkState := .write } := by
  simp [enterWrite]

@[simp] theorem enterWrite_linkState : (enterWrite s).linkState = .write := rfl
@[simp] theorem enterWrite_txIdx : (enterWrite s).txIdx = 0 := rfl
@[simp] theorem enterWrite_ledStatus : (enterWrite s).ledStatus = (ledCycle s).ledStatus := rfl
@[simp] theorem enterWrite_ledPhase : (enterWrite s).ledPhase = (ledCycle s).ledPhase := rfl
@[simp] theorem enterWrite_gameState : (enterWrite s).gameState = (ledCycle s).gameState := rfl
@[simp] theorem enterWrite_nextUpdate : (enterWrite s).nextUpdate = (ledCycle s).nextUpdate := rfl
@[simp] theorem enterWrite_eventQ : (enterWrite s).eventQ = (ledCycle s).eventQ := rfl
@[simp] theorem enterWrite_fault : (enterWrite s).fault = (ledCycle s).fault := rfl
@[simp] theorem enterWrite_drive : (enterWrite s).drive = s.drive := ledCycle_drive s
@[simp] theorem enterWrite_cars : (enterWrite s).cars = s.cars := ledCycle_cars s
@[simp] theorem enterWrite_positions : (enterWrite s).positions = s.positions := ledCycle_positions s
@[simp] theorem enterWrite_finishedCarCount : (enterWrite s).finishedCarCount = s.finishedCarCount :=
  ledCycle_finishedCarCount s

@[simp] theorem enterWrite_txBuf :
    (enterWrite s).txBuf = encodeOut s.params s.opMode s.drive (ledCycle s).ledStatus := by simp [enterWrite]

end Sys2Proof.Machine
end

