-- ==== Sys2Proof/Laws/PerInstr.lean ====
section
/-! SUPPORT. Facts about every instruction as syntax, one lemma per constructor. -/

namespace Sys2Proof.Laws.OnItsPort

/-- The operation code of R93, or the event kind of R99. -/
def code : Instr → Nat
  | .stop => 0x1
  | .init _ _ => 0x2
  | .start => 0x3
  | .bind _ => 0x4
  | .train => 0x5
  | .setPowerRate _ _ => 0x6
  | .setPower _ _ => 0x7
  | .setBrake _ _ => 0x8
  | .setLaneChange _ _ => 0x9
  | .getGameState _ => 0xA
  | .getLastUpdate _ => 0xB
  | .ledReset => 0xC
  | .rxByte _ => 0x1
  | .txReady => 0x2
  | .ioError => 0x3
  | .watchdogTick => 0x4
  | .timerTick => 0x5

/-- A command is encoded on the command port with its code in `w[31:28]`, an event on the event port with its kind in
`e[11:8]` (R92, R98, R106). -/
def Statement (i : Instr) : Prop :=
  match encode i with
  | .command w => i.isCommand = true ∧ (w.extractLsb' 28 4).toNat = code i
  | .event e => i.isCommand = false ∧ (e.extractLsb' 8 4).toNat = code i

/-- The highest four bits of a concatenation are its first part: two, three and four parts. -/
theorem high2 {m : Nat} (a : BitVec 4) (b : BitVec m) : (a ++ b).extractLsb' m 4 = a := by
  ext i hi
  simp [BitVec.getLsbD_append, BitVec.getLsbD_eq_getElem hi]

theorem high3 {m n : Nat} (a : BitVec 4) (b : BitVec m) (c : BitVec n) : (a ++ b ++ c).extractLsb' (n + m) 4 = a := by
  ext i hi
  simp [BitVec.getLsbD_append, BitVec.getLsbD_eq_getElem hi, Nat.add_assoc]

theorem high4 {m n k : Nat} (a : BitVec 4) (b : BitVec m) (c : BitVec n) (d : BitVec k) :
    (a ++ b ++ c ++ d).extractLsb' (k + (n + m)) 4 = a := by
  ext i hi
  simp [BitVec.getLsbD_append, BitVec.getLsbD_eq_getElem hi, Nat.add_assoc]

theorem stop : Statement .stop := ⟨rfl, by decide⟩
theorem init (laps : BitVec 16) (mask : BitVec 8) : Statement (.init laps mask) :=
  ⟨rfl, congrArg BitVec.toNat (high4 0x2#4 0#4 laps mask)⟩
theorem start : Statement .start := ⟨rfl, by decide⟩
theorem bind (car : BitVec 4) : Statement (.bind car) := ⟨rfl, congrArg BitVec.toNat (high3 0x4#4 car 0#24)⟩
theorem train : Statement .train := ⟨rfl, by decide⟩
theorem setPowerRate (car : BitVec 4) (pct : BitVec 8) : Statement (.setPowerRate car pct) :=
  ⟨rfl, congrArg BitVec.toNat (high4 0x6#4 car 0#16 pct)⟩
theorem setPower (car : BitVec 4) (pwr : BitVec 8) : Statement (.setPower car pwr) :=
  ⟨rfl, congrArg BitVec.toNat (high4 0x7#4 car 0#16 pwr)⟩
theorem setBrake (car : BitVec 4) (v : BitVec 1) : Statement (.setBrake car v) :=
  ⟨rfl, congrArg BitVec.toNat (high4 0x8#4 car 0#23 v)⟩
theorem setLaneChange (car : BitVec 4) (v : BitVec 1) : Statement (.setLaneChange car v) :=
  ⟨rfl, congrArg BitVec.toNat (high4 0x9#4 car 0#23 v)⟩
theorem getGameState (sel : BitVec 8) : Statement (.getGameState sel) :=
  ⟨rfl, congrArg BitVec.toNat (high3 0xA#4 0#20 sel)⟩
theorem getLastUpdate (sel : BitVec 8) : Statement (.getLastUpdate sel) :=
  ⟨rfl, congrArg BitVec.toNat (high3 0xB#4 0#20 sel)⟩
theorem ledReset : Statement .ledReset := ⟨rfl, by decide⟩
theorem rxByte (data : Byte) : Statement (.rxByte data) := ⟨rfl, congrArg BitVec.toNat (high2 0x1#4 data)⟩
theorem txReady : Statement .txReady := ⟨rfl, by decide⟩
theorem ioError : Statement .ioError := ⟨rfl, by decide⟩
theorem watchdogTick : Statement .watchdogTick := ⟨rfl, by decide⟩
theorem timerTick : Statement .timerTick := ⟨rfl, by decide⟩

end Sys2Proof.Laws.OnItsPort
end

