-- ==== Sys2Proof/Tests/Slice0.lean ====
section
/-! SUPPORT. The implementer's own tests. Expected values come from spec/95_test_vectors.md (its sections, worked examples
E1 to E9 and programs P1 to P5, named at each test) or from the encoding tables of spec/30_encoding.md; and for every
statement with hypotheses a witness: concrete operands and states that meet them, one for each clause. -/

namespace Sys2Proof.Tests

open Sys2Proof.Machine

-- Each test waits for the kernel; one at a time keeps the number of threads small.
set_option Elab.async false

/-! States and readers. -/

/-- The idle frame `I` of P2. -/
def idleFrame : InFrame := #v[0xBF, 0xFF, 0xFF, 0xFF, 0xFF, 0xFF, 0xFF, 0, 0, 0, 0, 0, 0, 0xFF, 0x83]

/-- The frame of P3 step 3: car id 1, 1000 ticks. -/
def carOneFrame : InFrame := #v[0xBF, 0xFF, 0xFF, 0xFF, 0xFF, 0xFF, 0xFF, 0, 1, 0, 0, 0x03, 0xE8, 0xFF, 0xFC]

/-- The part of P1's end state that the tests read, with the clock at 37,500. -/
def linked (g : GameState) : State :=
  { State.reset with
    clock := 37500, linkState := .read, prevFrame := idleFrame, linkConnected := true, ledStatus := 0x7F#8,
    conn := Vector.replicate 6 true, lastUpdate := 25000, gameState := g }

/-- `s` with fourteen bytes of `f` received. -/
def received (f : InFrame) (s : State) : State := { s with rxBuf := f.set 14 0, rxCount := 14 }

/-- One field of the state an instruction leads to. -/
def after {α : Type} (i : Instr) (s : State) (f : State → α) : Option α :=
  match exec i s with
  | .next t => some (f t)
  | .fault _ => none
  | .refused _ => none

/-- The response registers and one field more. -/
def respAnd {α : Type} (f : State → α) (s : State) : CmdStatus × BitVec 32 × α := (s.cmdStatus, s.cmdResult, f s)

/-! Well-formedness: for each check an ill-formed term, which it refuses (§2.5), and the boundary values it accepts. -/

theorem test_wellFormed_refuses_car : (Instr.bind 6).wellFormed .default = false := by decide
theorem test_wellFormed_refuses_empty_mask : (Instr.init 3 0x00).wellFormed .default = false := by decide
theorem test_wellFormed_refuses_mask_id_six : (Instr.init 3 0x43).wellFormed .default = false := by decide
theorem test_wellFormed_refuses_rate_zero : (Instr.setPowerRate 0 0).wellFormed .default = false := by decide
theorem test_wellFormed_refuses_rate_101 : (Instr.setPowerRate 0 101).wellFormed .default = false := by decide
theorem test_wellFormed_refuses_rate_car : (Instr.setPowerRate 6 50).wellFormed .default = false := by decide
theorem test_wellFormed_refuses_power_64 : (Instr.setPower 0 64).wellFormed .default = false := by decide
theorem test_wellFormed_refuses_power_car : (Instr.setPower 6 1).wellFormed .default = false := by decide
theorem test_wellFormed_refuses_brake_car : (Instr.setBrake 6 1).wellFormed .default = false := by decide
theorem test_wellFormed_refuses_lane_car : (Instr.setLaneChange 15 0).wellFormed .default = false := by decide
theorem test_wellFormed_refuses_selector_7 : (Instr.getGameState 7).wellFormed .default = false := by decide
theorem test_wellFormed_refuses_selector_2 : (Instr.getLastUpdate 2).wellFormed .default = false := by decide
theorem test_wellFormed_accepts_boundaries :
    ([Instr.bind 5, .init 0 0x3F, .setPowerRate 5 100, .setPowerRate 0 1, .setPower 5 63, .getGameState 6,
      .getLastUpdate 1].all fun i => i.wellFormed .default) = true := by decide

/-! Decoding: words written out bit by bit from R92, R93, R98 and R99, OP or KIND first. -/

theorem test_decode_stop : decode (.command 0b0001_0000_000000000000000000000000#32) = .ok .stop := by decide
theorem test_decode_init : decode (.command 0b0010_0000_1000000000000011_00000101#32) = .ok (.init 0x8003 0x05) := by decide
theorem test_decode_start : decode (.command 0b0011_0000_000000000000000000000000#32) = .ok .start := by decide
theorem test_decode_bind : decode (.command 0b0100_0010_000000000000000000000000#32) = .ok (.bind 2) := by decide
theorem test_decode_train : decode (.command 0b0101_0000_000000000000000000000000#32) = .ok .train := by decide
theorem test_decode_setPowerRate :
    decode (.command 0b0110_0001_0000000000000000_00110010#32) = .ok (.setPowerRate 1 50) := by decide
theorem test_decode_setPower :
    decode (.command 0b0111_0100_0000000000000000_00111111#32) = .ok (.setPower 4 63) := by decide
theorem test_decode_setBrake :
    decode (.command 0b1000_0100_00000000000000000000000_1#32) = .ok (.setBrake 4 1) := by decide
theorem test_decode_setLaneChange :
    decode (.command 0b1001_0011_00000000000000000000000_1#32) = .ok (.setLaneChange 3 1) := by decide
theorem test_decode_getGameState :
    decode (.command 0b1010_0000_0000000000000000_00000110#32) = .ok (.getGameState 6) := by decide
theorem test_decode_getLastUpdate :
    decode (.command 0b1011_0000_0000000000000000_00000001#32) = .ok (.getLastUpdate 1) := by decide
theorem test_decode_ledReset : decode (.command 0b1100_0000_000000000000000000000000#32) = .ok .ledReset := by decide
theorem test_decode_rxByte : decode (.event 0b0001_01011010#12) = .ok (.rxByte 0x5A) := by decide
theorem test_decode_txReady : decode (.event 0b0010_00000000#12) = .ok .txReady := by decide
theorem test_decode_ioError : decode (.event 0b0011_00000000#12) = .ok .ioError := by decide
theorem test_decode_watchdogTick : decode (.event 0b0100_00000000#12) = .ok .watchdogTick := by decide
theorem test_decode_timerTick : decode (.event 0b0101_00000000#12) = .ok .timerTick := by decide

/-- R94 and §2.5: OP 0 and D, and a field that must be zero. -/
theorem test_decode_rejects_reserved_commands :
    decode (.command 0x00000000) = .error (.reservedOpcode 0) ∧ decode (.command 0xD0000000) = .error (.reservedOpcode 0xD) ∧
    decode (.command 0x13000000) = .error (.nonzeroField 1) ∧ decode (.command 0x21000303) = .error (.nonzeroField 2) ∧
    decode (.command 0x80000002) = .error (.nonzeroField 8) := by decide

/-- R100: KIND 0 and 6, and DATA with an event that has none. -/
theorem test_decode_rejects_reserved_events :
    decode (.event 0x000) = .error (.reservedKind 0) ∧ decode (.event 0x600) = .error (.reservedKind 6) ∧
    decode (.event 0x201) = .error (.nonzeroData 2) := by decide

/-- The rows' widths choose the port (notes/assumptions/11.md). -/
theorem test_table_words :
    decodeTableWord 32 0x93000001 = some (.setLaneChange 3 1) ∧ decodeTableWord 16 0x15A = some (.rxByte 0x5A) := by decide

/-! The codec (§2.1, §2.2). -/

theorem test_crc_check_string :
    crc8 .default [0x31, 0x32, 0x33, 0x34, 0x35, 0x36, 0x37, 0x38, 0x39] = 0xF4 := by decide +kernel

/-- E1: the valid frame, and the frame with bit 0 of byte 14 flipped. -/
theorem test_frame_check : frameOk .default idleFrame = true ∧ frameOk .default (idleFrame.set 14 0x82) = false := by
  decide +kernel

/-- §2.1: drive `[E0,FF,..]` with LED byte 7F. -/
theorem test_encode_out : encodeOut .default 0xFF ((Vector.replicate 6 0xFF#8).set 0 0xE0) 0x7F =
    #v[0xFF, 0xE0, 0xFF, 0xFF, 0xFF, 0xFF, 0xFF, 0x7F, 0x74] := by decide +kernel

theorem test_ticks : ticksToUs .default 1562500 = 10000000 ∧ ticksToUs .default 0xFFFFFFFF = 27487790688 := by decide

/-- E2: the worked ranking. -/
theorem test_ranking :
    rankedSlots (Vector.ofFn fun i => { CarState.reset .default with
      laps := #v[2, 3, 2, 0, 0, 0][i], lastCrossingTime := #v[900, 800, 700, 0, 0, 0][i] }) = [1, 2, 0, 3, 4, 5] := by
  decide +kernel

/-- The codes of R20, R29, R97, R101, R102, R104 and R270. -/
theorem test_codes :
    [LinkState.read, .write, .halted].map linkStateCode = [0, 1, 2] ∧ [LedPhase.idle, .cycle1, .cycle2].map ledPhaseCode = [0, 1, 2] ∧
    [CmdStatus.ok, .invalidArgument].map cmdStatusCode = [0, 1] ∧
    [GameState.stopped, .countdown, .race, .starting, .training, .binding].map gameStateCode = [0, 1, 2, 3, 4, 5] ∧
    buttonPriority.map buttonCode = [0, 1, 2, 3, 4, 5] ∧
    [DiagCode.ioFailure, .disconnect, .reopen, .connected].map diagCode = [1, 2, 3, 4] ∧
    [ErrorClass.frameCorrupt, .ioFailure, .invalidArgument, .linkSilence, .evqOverflow, .illegalEvent].map errorCode =
      [1, 2, 3, 4, 5, 6] := by decide

/-- R52: equal clock values are allowed, a decrease is not. -/
theorem test_clock_duty :
    clockMonotone { State.reset with inputs := [{ t := 5, word := .event 0x200 }, { t := 5, word := .event 0x200 }] } = true ∧
    clockMonotone { State.reset with inputs := [{ t := 5, word := .event 0x200 }, { t := 4, word := .event 0x200 }] } = false := by
  decide +kernel

/-! Commands (§2.4, §2.5). -/

/-- `cut_power` keeps the brake: 3F becomes 7F; no event in STOPPED. -/
theorem test_stop_in_stopped :
    after .stop { linked .stopped with drive := Vector.replicate 6 0x3F } (respAnd fun t => (t.drive[0], t.eventQ)) =
      some (.ok, 0, 0x7F, []) := by decide +kernel
theorem test_stop_in_race :
    after .stop { linked .race with drive := Vector.replicate 6 0xC0 } (fun t => (t.gameState, t.drive[5], t.eventQ, t.ledPhase)) =
      some (.stopped, 0xFF, [.stateChange .stopped], .cycle1) := by decide +kernel

/-- P2 step 2. -/
theorem test_init :
    after (.init 3 0x03) (linked .stopped) (fun t => (t.cmdStatus, t.gameState, t.eventQ)) =
      some (.ok, .countdown, [.stateChange .countdown]) ∧
    after (.init 3 0x03) (linked .stopped) (fun t => (t.activeCarCount, t.targetLaps, t.cars[1].active, t.cars[2].active)) =
      some (2, 3, true, false) := by decide +kernel
theorem test_init_rejects :
    after (.init 3 0x43) (linked .stopped) (respAnd fun t => (t.gameState, t.activeCarCount)) =
      some (.invalidArgument, 0, .stopped, 0) := by decide +kernel

theorem test_start :
    after .start (linked .countdown) (respAnd fun t => (t.gameState, t.eventQ)) =
      some (.ok, 0, .starting, [.stateChange .starting]) := by decide +kernel
theorem test_start_elsewhere :
    after .start (linked .stopped) (respAnd fun t => (t.gameState, t.eventQ)) = some (.ok, 0, .stopped, []) := by
  decide +kernel

/-- P5 step 1, from BINDING through STOPPED where it is not STOPPED already. -/
theorem test_bind :
    after (.bind 2) (linked .stopped) (fun t => (t.cmdStatus, t.gameState, t.eventQ)) =
      some (.ok, .binding, [.stateChange .binding]) ∧
    after (.bind 2) (linked .stopped) (fun t => (t.bindStart, t.bindTarget)) = some (37500, 2) := by decide +kernel
theorem test_bind_via_stopped :
    after (.bind 5) (linked .binding) (fun t => t.eventQ) = some [.stateChange .stopped, .stateChange .binding] := by
  decide +kernel

theorem test_train :
    after .train (linked .stopped) (respAnd fun t => (t.gameState, t.eventQ)) =
      some (.ok, 0, .training, [.stateChange .training]) := by decide +kernel

theorem test_setPowerRate :
    after (.setPowerRate 1 50) (linked .race) (respAnd fun t => (t.cars[1].powerRate, t.cars[0].powerRate)) =
      some (.ok, 0, 50, 100) := by decide +kernel
theorem test_setPowerRate_rejects :
    after (.setPowerRate 0 101) (linked .race) (respAnd fun t => t.cars[0].powerRate) =
      some (.invalidArgument, 0, 100) := by decide +kernel

/-- E5: rate 50, power 63 gives E0. -/
theorem test_setPower :
    after (.setPower 0 63) { linked .race with cars := Vector.replicate 6 { CarState.reset .default with powerRate := 50 } }
      (respAnd fun t => (t.drive[0], t.drive[1])) = some (.ok, 0, 0xE0, 0xFF) := by decide +kernel
/-- From 7F, power 63: the brake is kept. -/
theorem test_setPower_keeps_brake :
    after (.setPower 0 63) { linked .race with drive := Vector.replicate 6 0x7F } (fun t => t.drive[0]) = some 0x40 := by
  decide +kernel

theorem test_setBrake :
    after (.setBrake 4 1) (linked .stopped) (respAnd fun t => t.drive) =
      some (.ok, 0, #v[0xFF, 0xFF, 0xFF, 0xFF, 0x7F, 0xFF]) := by decide +kernel
theorem test_setBrake_off :
    after (.setBrake 4 0) { linked .stopped with drive := Vector.replicate 6 0x3F } (fun t => t.drive[4]) = some 0xBF := by
  decide +kernel

theorem test_setLaneChange :
    after (.setLaneChange 3 1) (linked .stopped) (respAnd fun t => t.drive) =
      some (.ok, 0, #v[0xFF, 0xFF, 0xFF, 0xBF, 0xFF, 0xFF]) := by decide +kernel
theorem test_setLaneChange_rejects :
    after (.setLaneChange 6 1) (linked .stopped) (respAnd fun t => t.drive[5]) = some (.invalidArgument, 0, 0xFF) := by
  decide +kernel

/-- §2.5: the positions `[1,0,2,3,4,5]` pack to 2C681. -/
theorem test_getGameState_positions :
    after (.getGameState 6) { linked .training with positions := #v[1, 0, 2, 3, 4, 5] } (respAnd fun t => t.gameState) =
      some (.ok, 0x2C681, .training) := by decide +kernel
theorem test_getGameState_rejects :
    after (.getGameState 7) (linked .training) (respAnd fun t => t.gameState) = some (.invalidArgument, 0, .training) := by
  decide +kernel

/-- The two halves of R96. -/
theorem test_getLastUpdate :
    after (.getLastUpdate 0) { linked .stopped with lastUpdate := 0x1234_0000_5678 } (respAnd fun t => t.lastUpdate) =
      some (.ok, 0x5678, 0x1234_0000_5678) := by decide +kernel
theorem test_getLastUpdate_high :
    after (.getLastUpdate 1) { linked .stopped with lastUpdate := 0x1234_0000_5678 } (fun t => t.cmdResult) =
      some 0x1234 := by decide +kernel

theorem test_ledReset :
    after .ledReset { linked .race with ledPhase := .cycle2 } (respAnd fun t => (t.ledPhase, t.ledStatus)) =
      some (.ok, 0, .cycle1, 0x7F) := by decide +kernel

/-! Link events and the frame path (§2.6 to §2.8). -/

/-- P4 step 8: dropped while HALTED. -/
theorem test_rxByte_dropped :
    after (.rxByte 0x55) { linked .race with linkState := .halted } (fun t => (t.rxCount, t.rxBuf[0])) = some (0, 0) := by
  decide +kernel
/-- P3 step 3: the fifteenth byte of a false-start frame; LED cycle 1 runs in the same step. -/
theorem test_rxByte_false_start :
    after (.rxByte 0xFC) (received carOneFrame { linked .starting with ledPhase := .cycle1 })
      (fun t => (t.gameState, t.eventQ, t.linkState)) = some (.stopped, [.falseStart 0, .stateChange .stopped], .write) ∧
    after (.rxByte 0xFC) (received carOneFrame { linked .starting with ledPhase := .cycle1 })
      (fun t => (t.txBuf, t.lastUpdate)) = some (#v[0xFF, 0xFF, 0xFF, 0xFF, 0xFF, 0xFF, 0xFF, 0xFF, 0xD7], 37500) := by
  decide +kernel

/-- P2 step 11: car id 1 at 15 s after a first crossing at 10 s, here with the update boundary at 2 s. -/
theorem test_frame_lap :
    let s := { linked .race with
      cars := (linked .race).cars.set 0 { CarState.reset .default with
        active := true, laps := 1, lastCrossingTime := 10000000, startTime := 10000000 }
      activeCarCount := 1, targetLaps := 3, nextUpdate := 2000000 }
    let f : InFrame := #v[0xBF, 0xFF, 0xFF, 0xFF, 0xFF, 0xFF, 0xFF, 0, 1, 0, 0x23, 0xC3, 0x46, 0xFF, 0]
    let t := onFrame f idleFrame s
    (t.eventQ, t.cars[0].laps, t.cars[0].bestLapTime, t.gameTime, t.nextUpdate) =
      ([.lap 0 1 5000000 true, .gameUpdate 15000000 [0]], 2, 5000000, 15000000, 3000000) := by decide +kernel

/-- §2.7 buttons: F6 after FF is START; F7 after F6 is ENTER; FF after 00 is nothing. -/
theorem test_frame_buttons :
    (buttonStep (idleFrame.set 13 0xF6) idleFrame (linked .stopped)).eventQ = [.button .start] ∧
    (buttonStep (idleFrame.set 13 0xF7) (idleFrame.set 13 0xF6) (linked .stopped)).eventQ = [.button .enter] ∧
    (buttonStep idleFrame (Vector.replicate 15 0) (linked .stopped)).eventQ = [] := by decide +kernel

/-- §2.7 handset mapping: A0 after FF in TRAINING. -/
theorem test_frame_handset :
    (mapHandset 0 0xA0 0xFF (linked .training)).drive[0] = 0xA0 := by decide +kernel

/-- §2.7 coasting: D7 until 1.5 s, then FF. -/
theorem test_frame_coast :
    (coast 0 { linked .race with gameTime := 1499999 }).drive[0] = 0xD7 ∧
    (coast 0 { linked .race with gameTime := 1500000 }).drive[0] = 0xFF := by decide +kernel

/-- P5 step 2: binding shows 84, LED cycle 1 makes it C4. -/
theorem test_frame_binding :
    after (.rxByte 0x83) (received idleFrame { linked .binding with bindTarget := 2, bindStart := 25000, ledPhase := .cycle1 })
      (fun t => (t.ledStatus, t.gameState)) = some (0xC4, .binding) := by decide +kernel

/-- §2.6: the ninth byte goes out and the block reads; outside WRITE nothing happens. -/
theorem test_txReady_ninth :
    after .txReady { State.reset with txIdx := 8 } (fun t => (t.txOut, t.linkState, t.txIdx)) = some ([0x24], .read, 0) := by
  decide +kernel
theorem test_txReady_in_read :
    after .txReady (linked .stopped) (fun t => (t.txOut, t.linkState)) = some ([], .read) := by decide +kernel

theorem test_ioError :
    after .ioError (linked .race) (fun t => (t.linkState, t.diagLog, t.gameState, t.lastUpdate)) =
      some (.halted, [.ioFailure], .race, 25000) := by decide +kernel

/-- §2.8: at the limit nothing, one microsecond later the reconnect. -/
theorem test_watchdog_at_limit :
    after .watchdogTick { linked .training with clock := 1025000 } (fun t => (t.linkState, t.diagLog)) = some (.read, []) := by
  decide +kernel
theorem test_watchdog_past_limit :
    after .watchdogTick { linked .training with clock := 1025001 }
      (fun t => (t.linkState, t.diagLog, t.linkConnected, t.lastUpdate, t.txBuf[8])) =
      some (.write, [.disconnect, .reopen], false, 1025001, 0x5E) := by decide +kernel

/-- P2 steps 16 and 17. -/
theorem test_timer_early :
    after .timerTick { linked .race with clock := 2149999, finishPending := true, finishDeadline := 2150000 }
      (fun t => (t.gameState, t.finishPending)) = some (.race, true) := by decide +kernel
theorem test_timer_due :
    after .timerTick { linked .race with clock := 2150000, finishPending := true, finishDeadline := 2150000, gameTime := 22000000 }
      (fun t => (t.gameState, t.finishPending, t.eventQ)) =
      some (.stopped, false, [.stateChange .stopped, .gameFinished 22000000 []]) := by decide +kernel

/-- A placed word is the next input a step takes. -/
theorem test_step_runs_a_placed_word :
    (match step (State.reset.withFetchWord 32 0x50000000) with
      | .next t => decide (t.gameState = .training ∧ t.inputs = [])
      | .fault _ => false
      | .refused _ => false) = true := by decide +kernel

/-! Witnesses. -/

/-- `linked g` with one more car in play: cars 0 and 1 active, on the given lap counts. -/
def racing (g : GameState) (laps0 laps1 : BitVec 32) : State :=
  { linked g with
    cars := ((linked g).cars.set 0 { CarState.reset .default with active := true, laps := laps0 }).set 1
      { CarState.reset .default with active := true, laps := laps1 }
    activeCarCount := 2, targetLaps := 3 }

/-- `racing` with car 0 finished. -/
def oneFinished : State :=
  { racing .race 2 2 with
    cars := (racing .race 2 2).cars.set 0 { CarState.reset .default with active := true, laps := 2, finished := true }
    finishedCarCount := 1 }

/-- `idleFrame` with another car id and one more tick: a crossing by that id. -/
def crossingBy (id : Byte) : InFrame := (idleFrame.set 8 id).set 12 1

theorem witness_EncodeOfDecode : decode (.command 0x93000001) = .ok (.setLaneChange 3 1) := by decide

theorem witness_StepRuns :
    (State.reset.withFetchWord 32 0x50000000).inputs = [{ t := 0, word := .command 0x50000000 }] ∧
    decode (.command 0x50000000) = .ok .train := by decide

theorem witness_ReservedWords :
    (State.reset.withFetchWord 32 0xD0000000).inputs = [{ t := 0, word := .command 0xD0000000 }] ∧
    (∀ i, decode (.command 0xD0000000) ≠ .ok i) ∧
    (State.reset.withFetchWord 16 0x201).inputs = [{ t := 0, word := .event 0x201 }] ∧
    (∀ i, decode (.event 0x201) ≠ .ok i) :=
  ⟨by decide, fun _ h => (by cases h), by decide, fun _ h => (by cases h)⟩

theorem witness_NoInput : State.reset.inputs = [] := rfl

theorem witness_SingleBitError : Params.default.crcPoly ≠ 0 ∧ frameOk .default idleFrame = true := by decide +kernel

theorem witness_CodecRoundTrips : Params.default.lapTimerBE = true := rfl

/-- The largest tick count with the default factor, and the largest product that fits. -/
theorem witness_Ticks :
    (0xFFFFFFFF#32).toNat * Params.default.tickUsNum.toNat < 2 ^ 64 ∧
    (0xFFFFFFFF#32).toNat * ({ Params.default with tickUsNum := 0x100000000 }).tickUsNum.toNat < 2 ^ 64 ∧
    Params.default.tickUsNum = 32 ∧ Params.default.tickUsDen = 5 := by decide

theorem witness_SetState : (linked .race).gameState = .race ∧ (linked .race).gameState ≠ .stopped := by decide

theorem witness_EnterWrite : (linked .stopped).ledPhase = .idle := rfl

theorem witness_LedCycles :
    Params.default.wf = true ∧ { linked .stopped with ledPhase := .cycle1 }.params.wf = true ∧
    { linked .starting with ledPhase := .cycle2 }.params.wf = true := by decide

theorem witness_PositionOrder :
    (0 : Slot) ≠ 1 ∧ before State.reset.cars 0 1 = true ∧ before State.reset.cars 1 2 = true := by decide +kernel

theorem witness_Rank : Ranked State.reset.cars identityOrder := ⟨by decide +kernel, by decide +kernel⟩

/-- Both sides of each bound: an empty list and id 6 alone, id 0 alone and all six. -/
theorem witness_Init :
    (0#8).toNat = 0 ∧ 64 ≤ (64#8).toNat ∧ (0 < (1#8).toNat ∧ (1#8).toNat < 64) ∧ (0 < (63#8).toNat ∧ (63#8).toNat < 64) := by
  decide

theorem witness_Start : (linked .countdown).gameState = .countdown ∧ (linked .race).gameState ≠ .countdown := by decide

theorem witness_CarOperands : 6 ≤ (6#4).toNat ∧ (5#4).toNat < 6 ∧ (0#4).toNat < 6 := by decide

theorem witness_SetPowerRate :
    State.reset.params.wf = true ∧ (0#8).toNat = 0 ∧ State.reset.params.rateMax.toNat < (101#8).toNat ∧
    1 ≤ (1#8).toNat ∧ (100#8).toNat ≤ State.reset.params.rateMax.toNat := by decide

theorem witness_SetPower :
    State.reset.params.wf = true ∧ (∀ i : Slot, State.reset.cars[i].powerRate.toNat ≤ 100) ∧
    State.reset.params.powerMax.toNat < (64#8).toNat ∧ (63#8).toNat ≤ State.reset.params.powerMax.toNat := by decide +kernel

theorem witness_Selectors : 6 < (7#8).toNat ∧ (6#8).toNat ≤ 6 ∧ 1 < (2#8).toNat ∧ (1#8).toNat ≤ 1 := by decide

theorem witness_CommandIsRejected :
    (Instr.bind 6).isCommand = true ∧ (Instr.bind 6).wellFormed State.reset.params = false ∧
    (Instr.bind 5).isCommand = true ∧ (Instr.bind 5).wellFormed State.reset.params = true := by decide

theorem witness_CommandsLeaveTheLink : Instr.stop.isCommand = true ∧ ∃ t, exec .stop (linked .race) = .next t :=
  ⟨rfl, _, rfl⟩

theorem witness_ReceivedByte :
    (linked .race).linkState = .read ∧ { linked .race with rxCount := 13 }.rxCount.toNat = (13 : Fin 14).val ∧
    State.reset.linkState ≠ .read := by decide

/-- E1's flipped checksum. -/
theorem witness_CorruptFrame :
    let s := received idleFrame (linked .race)
    s.linkState = .read ∧ s.rxCount = 14 ∧ frameOk s.params (s.rxBuf.set 14 0x82) = false ∧ s.ledPhase = .idle := by
  decide +kernel

theorem witness_GoodFrame :
    let s := received idleFrame (linked .race)
    s.linkState = .read ∧ s.rxCount = 14 ∧ frameOk s.params (s.rxBuf.set 14 0x83) = true := by decide +kernel

theorem witness_ConnectCheck : (linked .race).linkConnected = true ∧ State.reset.linkConnected = false := by decide

theorem witness_TxReady :
    State.reset.linkState = .write ∧ State.reset.txIdx.toNat = (0 : Fin 8).val ∧
    { State.reset with txIdx := 7 }.txIdx.toNat = (7 : Fin 8).val ∧ { State.reset with txIdx := 8 }.txIdx = 8 ∧
    (linked .race).linkState ≠ .write ∧ 9 ≤ { State.reset with txIdx := 9 }.txIdx.toNat := by decide

theorem witness_NineTxReady :
    let s := { State.reset with inputs := List.replicate 9 { t := State.reset.clock, word := .event 0x200 } }
    s.linkState = .write ∧ s.txIdx = 0 ∧ s.inputs = List.replicate 9 { t := s.clock, word := .event 0x200 } := by decide

theorem witness_FourteenBytes :
    let x : Vector Byte 14 := Vector.replicate 14 0x5A
    let s := { linked .race with inputs := x.toList.map fun b => { t := 37500, word := .event (0x1#4 ++ b) } }
    s.linkState = .read ∧ s.rxCount = 0 ∧ s.inputs = x.toList.map fun b => { t := s.clock, word := .event (0x1#4 ++ b) } := by
  decide +kernel

/-- The gap at the limit, one past it, and HALTED with no gap. -/
theorem witness_Watchdog :
    (let s := { linked .race with clock := 1025000 }
     s.linkState ≠ .halted ∧ (s.clock - s.lastUpdate).toNat ≤ s.params.silenceUs.toNat) ∧
    (let s := { linked .race with clock := 1025001 }
     s.params.silenceUs.toNat < (s.clock - s.lastUpdate).toNat ∧ s.ledPhase = .idle) ∧
    { linked .race with linkState := .halted, clock := 25000 }.linkState = .halted := by decide

/-- Not pending; one early; due with the counts equal; due with them unequal. -/
theorem witness_TimerTick :
    (linked .race).finishPending = false ∧
    (let s := { linked .race with finishPending := true, finishDeadline := 37501 }
     s.clock.toNat < s.finishDeadline.toNat) ∧
    (let s := { linked .race with finishPending := true, finishDeadline := 37500 }
     s.finishPending = true ∧ s.finishDeadline.toNat ≤ s.clock.toNat ∧ s.finishedCarCount = s.activeCarCount) ∧
    (let s := { oneFinished with finishPending := true, finishDeadline := 37500 }
     s.finishPending = true ∧ s.finishDeadline.toNat ≤ s.clock.toNat ∧ s.finishedCarCount ≠ s.activeCarCount) := by
  decide +kernel

theorem witness_BindingFrame :
    (let s := { linked .binding with clock := 2999999 }
     s.params.wf = true ∧ s.gameState = .binding ∧ (s.clock - s.bindStart).toNat < s.params.bindUs.toNat) ∧
    (let s := { linked .binding with clock := 3000000 }
     s.params.bindUs.toNat ≤ (s.clock - s.bindStart).toNat) := by decide

theorem witness_Connectivity : (linked .race).params.wf = true := by decide

theorem witness_Handset : (linked .training).cars[(0 : Slot)].powerRate.toNat ≤ 100 := by decide +kernel

/-- STOPPED; a mapped slot in TRAINING and in RACE; a finished one; an inactive one. -/
theorem witness_DriveStep :
    (linked .stopped).gameState = .stopped ∧ (linked .training).gameState = .training ∧
    (oneFinished.cars[(1 : Slot)].active = true ∧ oneFinished.cars[(1 : Slot)].finished = false) ∧
    (oneFinished.gameState ≠ .training ∧ oneFinished.cars[(0 : Slot)].active = true ∧
      oneFinished.cars[(0 : Slot)].finished = true) ∧
    oneFinished.cars[(2 : Slot)].active = false := by decide +kernel

/-- Both states, and the ids at both ends of 1 to 6. -/
theorem witness_FalseStart :
    (linked .starting).gameState = .starting ∧ (linked .countdown).gameState = .countdown ∧
    lapTimer .default (crossingBy 1) ≠ lapTimer .default idleFrame ∧
    (crossingBy 1)[8].toNat % 8 = (0 : Slot).val + 1 ∧ (crossingBy 6)[8].toNat % 8 = (5 : Slot).val + 1 := by decide +kernel

theorem witness_OnlyACountedCrossing :
    lapTimer .default idleFrame = lapTimer .default idleFrame ∧
    lapTimer .default (crossingBy 7) ≠ lapTimer .default idleFrame ∧ (crossingBy 0)[8].toNat % 8 = 0 ∧
    (crossingBy 7)[8].toNat % 8 = 7 ∧ (linked .stopped).gameState = .stopped ∧
    (oneFinished.gameState = .race ∧ ∀ k : Slot, (crossingBy 1)[8].toNat % 8 = k.val + 1 →
      oneFinished.cars[k].active = false ∨ oneFinished.cars[k].finished = true) ∧
    (oneFinished.cars[(1 : Slot)].active = true ∧ oneFinished.cars[(1 : Slot)].finished = false ∧
      (crossingBy 2)[8].toNat % 8 = (1 : Slot).val + 1) ∧
    ((linked .training).gameState = .training ∧ (crossingBy 6)[8].toNat % 8 = (5 : Slot).val + 1) := by decide +kernel

/-- P2 step 13: the finishing crossing of car 0 at 20 s, a lap of 5 s that equals its best. -/
theorem test_frame_finish :
    let s := { racing .race 2 2 with
      cars := (racing .race 2 2).cars.set 0 { CarState.reset .default with
        active := true, laps := 2, lastCrossingTime := 15000000, bestLapTime := 5000000, startTime := 10000000 } }
    let t := lapBookkeeping 0 20000000 s
    t.eventQ = [.lap 0 2 5000000 false] ∧ t.finishedCarCount = 1 ∧ t.finishPending = false ∧
    (t.cars[(0 : Slot)].finished, t.cars[(0 : Slot)].laps, t.cars[(0 : Slot)].bestLapTime) = (true, 2, 5000000) := by
  decide +kernel

/-- The last lap below the target of 3, the lap at it, and TRAINING. -/
theorem witness_Laps :
    (racing .race 1 0).cars[(0 : Slot)].laps.toNat + 1 < (racing .race 1 0).targetLaps.toNat ∧
    (linked .training).gameState ≠ .race ∧
    ((racing .race 2 0).gameState = .race ∧
      (racing .race 2 0).targetLaps.toNat ≤ (racing .race 2 0).cars[(0 : Slot)].laps.toNat + 1) ∧
    (oneFinished.gameState = .race ∧ oneFinished.targetLaps.toNat ≤ oneFinished.cars[(1 : Slot)].laps.toNat + 1 ∧
      (lapBookkeeping 1 0 oneFinished).finishedCarCount = oneFinished.activeCarCount) ∧
    (lapBookkeeping 0 0 (racing .race 2 0)).finishedCarCount ≠ (racing .race 2 0).activeCarCount := by decide +kernel

theorem witness_GameUpdate :
    (let s := { linked .race with nextUpdate := 1000000 }
     (1000000#64).toNat ≤ s.nextUpdate.toNat ∧ s.nextUpdate.toNat < (1000001#64).toNat ∧ s.gameState = .race) ∧
    ((linked .stopped).gameState ≠ .race ∧ (linked .stopped).gameState ≠ .training) := by decide

/-- No change; all released; START pressed; DOWN pressed alone. -/
theorem witness_Buttons :
    idleFrame[13] = idleFrame[13] ∧ (∀ b : Fin 6, idleFrame[13].getLsbD Params.default.btnBit[b].val = true) ∧
    ((idleFrame.set 13 0xF6)[13] ≠ idleFrame[13] ∧
      (idleFrame.set 13 0xF6)[13].getLsbD Params.default.btnBit[buttonCode .start].val = false) ∧
    ((idleFrame.set 13 0xDF)[13] ≠ idleFrame[13] ∧
      (idleFrame.set 13 0xDF)[13].getLsbD Params.default.btnBit[buttonCode .down].val = false ∧
      [Button.start, .right, .up, .enter, .left].all
        (fun b => (idleFrame.set 13 0xDF)[13].getLsbD Params.default.btnBit[buttonCode b].val) = true) := by decide +kernel

theorem witness_FrameEvents : (linked .binding).gameState = .binding ∧ (linked .race).gameState ≠ .binding := by decide

/-- Two frames that differ in track power, the auxiliary byte, the high bits of the id byte and the checksum. -/
theorem witness_UnreadBits :
    let f : InFrame := (((idleFrame.set 0 0x3F).set 7 0x55).set 8 0xF8).set 14 0
    f ≠ idleFrame ∧ (∀ i : Slot, connIn .default f i = connIn .default idleFrame i ∧ f[1 + i.val] = idleFrame[1 + i.val]) ∧
    f[8].toNat % 8 = idleFrame[8].toNat % 8 ∧ lapTimer .default f = lapTimer .default idleFrame ∧ f[13] = idleFrame[13] := by
  decide +kernel

theorem witness_PowerOnInvariant : Params.default.wf = true := by decide

/-- A race in which one of two cars has finished and the fifteenth byte of a good frame is next. -/
def midRace : State :=
  { received idleFrame oneFinished with inputs := [{ t := 50000, word := .event 0x183 }] }

theorem witness_StepKeepsTheInvariant : midRace.Inv ∧ ∃ t, step midRace = .next t := by
  refine ⟨?_, _, rfl⟩
  constructor
  case queue_bound => intro d h; cases h
  all_goals decide +kernel

theorem witness_OutputsOnlyGrow :
    midRace.inputs = [{ t := 50000, word := .event 0x183 }] ∧ ∃ t, step midRace = .next t := ⟨rfl, _, rfl⟩

theorem witness_HalfDuplex :
    after .txReady State.reset (fun t => decide (t.txOut ≠ State.reset.txOut)) = some true ∧
    after (.rxByte 0x5A) (linked .race) (fun t => decide (t.rxBuf ≠ (linked .race).rxBuf)) = some true ∧
    after .ioError (linked .race) (fun t => decide (t.linkState ≠ .read)) = some true := by decide +kernel

theorem witness_GameState :
    after (.rxByte 0x83) (received idleFrame { linked .starting with ledPhase := .cycle2 })
      (fun t => (t.gameState, decide (t.gameState ≠ .starting))) = some (.race, true) := by decide +kernel

/-- The reserved words of the error statement and of the listed words' last row, at the ends of the range. -/
theorem witness_ReservedEvents :
    (0x600#12 ≤ 0x600#12 ∧ ∀ i, decode (.event 0x600) ≠ .ok i) ∧ (0x600#12 ≤ 0xFFF#12 ∧ ∀ i, decode (.event 0xFFF) ≠ .ok i) ∧
    (∀ i, decode (.event 0x000) ≠ .ok i) ∧ (∀ i, decode (.command 0xD0000000) ≠ .ok i) :=
  ⟨⟨by decide, fun _ h => (by cases h)⟩, ⟨by decide, fun _ h => (by cases h)⟩, fun _ h => (by cases h),
    fun _ h => (by cases h)⟩

/-- Each of the source's four classes, and none of them. -/
theorem witness_Errors :
    errorOf .ioError State.reset = some .ioFailure ∧
    errorOf .watchdogTick { State.reset with clock := 1000001 } = some .linkSilence ∧
    errorOf (.rxByte 0x82) (received idleFrame (linked .race)) = some .frameCorrupt ∧
    errorOf (.bind 6) State.reset = some .invalidArgument ∧ errorOf (.bind 5) State.reset = none ∧
    Instr.ioError.isCommand = false := by decide +kernel

theorem witness_ConsumerDelay : State.reset.params.evqDepth = none := rfl

end Sys2Proof.Tests
end

section

namespace Sys2Proof.Machine

theorem step_of_inputs_cons {s : State} {inp : Input} {rest : List Input} (hin : s.inputs = inp :: rest) :
    step s = runWord inp.word (present inp rest s) := by
  simp only [step, hin]

theorem runWord_of_decode_ok {w : PortWord} {i : Instr} (hdec : decode w = .ok i) (s : State) :
    runWord w s = exec i s := by
  simp only [runWord, hdec]

/-- Settles O5: the head of the inputs is presented, and its word runs as the instruction it decodes to (R5). -/
theorem stepRunsTheDecodedInstruction : Obligations.StepRunsTheDecodedInstruction := by
  intro s inp rest i hin hdec
  calc step s = runWord inp.word (present inp rest s) := step_of_inputs_cons hin
    _ = exec i (present inp rest s) := runWord_of_decode_ok hdec _

end Sys2Proof.Machine
end

section
/-! The outputs and the fault bits (O56). `Extends` is what any procedure may do to them; it composes, so each procedure's
lemma cites the lemmas of the procedures it calls. -/

namespace Sys2Proof.Machine

variable {s t u : State}

/-! The records offered to the queue. -/

theorem offer_grows (depth : Option Nat) (q : List Event × Bool) (e : Event) : q.1 <+: (offer depth q e).1 := by
  unfold offer
  split
  · exact ⟨[e], rfl⟩
  · split
    · simp
    · exact ⟨[e], rfl⟩

theorem offer_overflow_sticks (depth : Option Nat) (q : List Event × Bool) (e : Event) (h : q.2 = true) :
    (offer depth q e).2 = true := by
  unfold offer
  split
  · exact h
  · split
    · rfl
    · exact h

theorem foldl_offer_grows (depth : Option Nat) (q : List Event × Bool) (evs : List Event) :
    q.1 <+: (evs.foldl (offer depth) q).1 :=
  List.foldlRecOn (motive := fun r => q.1 <+: r.1) evs (offer depth) (by simp)
    fun r hr e _ => hr.trans (offer_grows depth r e)

theorem foldl_offer_overflow_sticks (depth : Option Nat) (q : List Event × Bool) (evs : List Event) (h : q.2 = true) :
    (evs.foldl (offer depth) q).2 = true :=
  List.foldlRecOn (motive := fun r => r.2 = true) evs (offer depth) h fun r hr e _ => offer_overflow_sticks depth r e hr

/-! What a procedure may do to the outputs. -/

/-- From `s` to `t` the outputs are extended at their tails, the queue by offering it records (R228); no fault bit is
cleared and the fields the environment places are as they were. A field a proof leaves out is unchanged. -/
structure Extends (s t : State) : Prop where
  params : t.params = s.params := by simp
  inputs : t.inputs = s.inputs := by simp
  clock : t.clock = s.clock := by simp
  diagLog : s.diagLog <+: t.diagLog := by simp
  txOut : s.txOut <+: t.txOut := by simp
  queue : ∃ evs : List Event,
    (t.eventQ, t.fault.evqOverflow) = evs.foldl (offer s.params.evqDepth) (s.eventQ, s.fault.evqOverflow) :=
      by exact ⟨[], by simp⟩
  illegal : s.fault.illegalEvent = true → t.fault.illegalEvent = true := by simp

namespace Extends

theorem refl (s : State) : Extends s s := {}

theorem trans (h : Extends s t) (k : Extends t u) : Extends s u where
  params := k.params.trans h.params
  inputs := k.inputs.trans h.inputs
  clock := k.clock.trans h.clock
  diagLog := h.diagLog.trans k.diagLog
  txOut := h.txOut.trans k.txOut
  queue := by
    obtain ⟨a, ha⟩ := h.queue
    obtain ⟨b, hb⟩ := k.queue
    exact ⟨a ++ b, by rw [List.foldl_append, ← ha, ← h.params, hb]⟩
  illegal := k.illegal ∘ h.illegal

theorem of_raises {evs : List Event} (h : Raises s t evs) (hp : t.params = s.params := by simp)
    (hi : t.inputs = s.inputs := by simp) (hc : t.clock = s.clock := by simp) (hd : t.diagLog = s.diagLog := by simp)
    (ht : t.txOut = s.txOut := by simp) : Extends s t where
  params := hp
  inputs := hi
  clock := hc
  diagLog := by simp [hd]
  txOut := by simp [ht]
  queue := ⟨evs, h.1⟩
  illegal := fun e => h.2.trans e

theorem eventQ_grows (h : Extends s t) : s.eventQ <+: t.eventQ := by
  obtain ⟨evs, hq⟩ := h.queue
  rw [show t.eventQ = _ from congrArg Prod.fst hq]
  exact foldl_offer_grows _ (s.eventQ, s.fault.evqOverflow) evs

theorem overflow_sticks (h : Extends s t) (hs : s.fault.evqOverflow = true) : t.fault.evqOverflow = true := by
  obtain ⟨evs, hq⟩ := h.queue
  rw [show t.fault.evqOverflow = _ from congrArg Prod.snd hq]
  exact foldl_offer_overflow_sticks _ (s.eventQ, s.fault.evqOverflow) evs hs

end Extends

/-! The shared operations. -/

variable (s)

theorem extends_forSlots (f : Slot → State → State) (h : ∀ i u, Extends u (f i u)) : Extends s (forSlots f s) :=
  forSlots_induction s (Extends s) f (fun i u hu => hu.trans (h i u)) (.refl s)

theorem extends_enqueue (e : Event) : Extends s (enqueue e s) := .of_raises (raises_enqueue s e)

theorem extends_setState (g : GameState) : Extends s (setState g s) := .of_raises (raises_setState s g)

theorem extends_cycle2Leds : Extends s (cycle2Leds s) := by
  unfold cycle2Leds
  exact {}

theorem extends_changed (g : GameState) : Extends s (changed g s) :=
  .trans (t := { s with gameState := g }) {} (extends_enqueue _ _)

theorem extends_ledCycle2 : Extends s (ledCycle2 s) := by
  by_cases h : s.gameState = .starting
  · rw [ledCycle2_starting s h]
    exact (extends_cycle2Leds s).trans (extends_changed _ .race)
  · rw [ledCycle2_other s h]
    exact extends_cycle2Leds s

theorem extends_ledCycle : Extends s (ledCycle s) := by
  unfold ledCycle
  split
  · exact .refl s
  · exact {}
  · exact extends_ledCycle2 s

theorem extends_enterWrite : Extends s (enterWrite s) :=
  (extends_ledCycle s).trans {}

/-! The decode path. -/

theorem extends_bindingStep : Extends s (bindingStep s) := by
  unfold bindingStep
  split
  · exact {}
  · exact (extends_setState s .training).trans {}

theorem extends_connectivityOf (f : InFrame) (i : Slot) : Extends s (connectivityOf f i s) := by
  unfold connectivityOf
  dsimp only
  split
  · exact {}
  · exact .trans (t := writeLed s.params.ledHandsetBit[i] (connIn s.params f i) s) {}
      ((extends_enqueue _ (.connectivityChange i (connIn s.params f i))).trans {})

/-- The state `lap_bookkeeping` hands to `count_lap`: the crossing recorded and the lap reported (R218). -/
def recordCrossing (k : Slot) (now : Time) (s : State) : State :=
  let lapTime := now - s.cars[k].lastCrossingTime
  let s := updateCar k (fun car => { car with lastCrossingTime := now }) s
  if s.cars[k].laps > 0 then
    let rec? := isRecord s.cars[k] lapTime
    let s := if rec? then updateCar k (fun car => { car with bestLapTime := lapTime }) s else s
    enqueue (.lap k s.cars[k].laps lapTime rec?) s
  else updateCar k (fun car => { car with startTime := now }) s

theorem lapBookkeeping_eq (k : Slot) (now : Time) : lapBookkeeping k now s = countLap k (recordCrossing k now s) := rfl

theorem extends_recordCrossing (k : Slot) (now : Time) : Extends s (recordCrossing k now s) := by
  unfold recordCrossing
  dsimp only
  split
  · refine .trans ?_ (extends_enqueue _ _)
    split <;> exact {}
  · exact {}

theorem extends_crossing (k : Slot) (now : Time) : Extends s (crossing k now s) := by
  unfold crossing
  split
  · rw [lapBookkeeping_eq]
    exact (extends_recordCrossing s k now).trans {}
  · split
    · exact (extends_enqueue s _).trans (extends_setState _ _)
    · exact .refl s

theorem extends_updateCheck (now : Time) : Extends s (updateCheck now s) := by
  unfold updateCheck
  split
  · exact .trans (t := rank s) {} ((extends_enqueue _ (.gameUpdate s.gameTime (report (rank s)))).trans {})
  · exact .refl s

/-- `s` with the game time a crossing frame sets where it runs (R216). -/
def setGameTime (now : Time) (s : State) : State := if gameTimeRuns s then { s with gameTime := now } else s

/-- A crossing frame sets the game time, runs the crossing of the slot it names and ends with the update check (R216). -/
theorem crossingStep_eq (f g : InFrame) :
    crossingStep f g s =
      if lapTimer s.params f = lapTimer s.params g then s
      else
        let now := ticksToUs s.params (lapTimer s.params f)
        updateCheck now
          ((crossingSlot (carIn f)).elim (setGameTime now s) fun k => crossing k now (setGameTime now s)) := by
  unfold crossingStep setGameTime
  cases crossingSlot (carIn f) <;> rfl

theorem extends_setGameTime (now : Time) : Extends s (setGameTime now s) := by
  unfold setGameTime
  split <;> exact {}

theorem extends_crossingStep (f g : InFrame) : Extends s (crossingStep f g s) := by
  rw [crossingStep_eq]
  split
  · exact .refl s
  · refine .trans ((extends_setGameTime s (ticksToUs s.params (lapTimer s.params f))).trans ?_) (extends_updateCheck _ _)
    cases crossingSlot (carIn f) with
    | none => exact .refl _
    | some k => exact extends_crossing _ k _

theorem extends_buttonStep (f g : InFrame) : Extends s (buttonStep f g s) := by
  unfold buttonStep
  split
  · exact .refl s
  · split
    · exact extends_enqueue s _
    · exact .refl s

theorem extends_onFrame (f g : InFrame) : Extends s (onFrame f g s) := by
  unfold onFrame
  split
  · exact extends_bindingStep s
  · have hconn : Extends s (connectivityStep f s) := extends_forSlots s _ fun i u => extends_connectivityOf u f i
    have hdrive : Extends (connectivityStep f s) (driveStep f g (connectivityStep f s)) := {}
    exact hconn.trans (hdrive.trans ((extends_crossingStep _ f g).trans (extends_buttonStep _ f g)))

/-! The link cycle, the timers and the watchdog. -/

theorem extends_connectCheck : Extends s (connectCheck s) where
  diagLog := by unfold connectCheck; split <;> simp

/-- The decode path sees the frame accepted before, which the connect check leaves (R144). -/
theorem acceptFrame_eq (f : InFrame) :
    acceptFrame f s =
      { onFrame f s.prevFrame (connectCheck { s with lastUpdate := s.clock }) with prevFrame := f } := by
  simp [acceptFrame]

theorem extends_acceptFrame (f : InFrame) : Extends s (acceptFrame f s) := by
  rw [acceptFrame_eq]
  refine .trans (t := { s with lastUpdate := s.clock }) {} ((extends_connectCheck _).trans ?_)
  exact (extends_onFrame _ f s.prevFrame).trans {}

theorem extends_completeFrame : Extends s (completeFrame s) := by
  unfold completeFrame
  refine .trans ?_ (extends_enterWrite _)
  split
  · exact (extends_acceptFrame s s.rxBuf).trans {}
  · exact {}

theorem extends_receiveByte (b : Byte) : Extends s (receiveByte b s) := by
  unfold receiveByte
  refine .trans (t := storeRx b s) {} ?_
  dsimp only
  split
  · exact extends_completeFrame _
  · exact .refl _

theorem extends_transmitByte : Extends s (transmitByte s) := by
  unfold transmitByte
  split
  · dsimp only
    split <;> exact {}
  · exact .refl s

theorem extends_finishRace : Extends s (finishRace s) :=
  (extends_setState s .stopped).trans (.trans (t := rank (setState .stopped s)) {} (extends_enqueue _ _))

theorem extends_reconnect : Extends s (reconnect s) :=
  .trans (t := { log .reopen { log .disconnect s with linkConnected := false } with
      rxCount := 0, txIdx := 0, lastUpdate := s.clock })
    {} (extends_enterWrite _)

/-! The commands and the step. -/

/-- A command of a slot is the rejection or its run on a slot (R190). -/
theorem withCar_cases {P : State → Prop} {f : Slot → State} (car : BitVec 4) (hr : P (reject s)) (hf : ∀ i, P (f i)) :
    P (withCar car s f) := by
  unfold withCar
  split
  · exact hf _
  · exact hr

/-- A read command writes the response and nothing else (R185, R186). -/
theorem respondSelected_eq (value : Option (BitVec 32)) : ∃ c r, respondSelected value s = respond c r s := by
  cases value with
  | none => exact ⟨_, _, rfl⟩
  | some r => exact ⟨_, _, rfl⟩

theorem extends_respond (c : CmdStatus) (r : BitVec 32) : Extends s (respond c r s) := {}

theorem extends_reject : Extends s (reject s) := extends_respond s _ _

variable {s}

theorem exec_extends {i : Instr} (h : exec i s = .next t) : Extends s t := by
  cases i with
  | stop => cases h; exact (extends_setState s .stopped).trans {}
  | init laps mask =>
    cases h
    split
    · exact extends_reject s
    · refine .trans (t := { resetRaceData (activate mask s) with targetLaps := laps.zeroExtend 32 }) {} ?_
      exact (extends_setState _ .countdown).trans (extends_respond _ _ _)
  | start =>
    cases h
    refine .trans ?_ (extends_respond _ _ _)
    split
    · exact extends_setState s .starting
    · exact .refl s
  | bind car =>
    cases h
    refine withCar_cases s car (extends_reject s) fun i => ?_
    refine (extends_setState s .stopped).trans ?_
    exact .trans (t := { setState .stopped s with bindStart := (setState .stopped s).clock, bindTarget := i }) {}
      ((extends_setState _ .binding).trans (extends_respond _ _ _))
  | train => cases h; exact (extends_setState s .training).trans {}
  | setPowerRate car pct =>
    cases h
    refine withCar_cases s car (extends_reject s) fun i => ?_
    split
    · exact extends_reject s
    · exact {}
  | setPower car pwr =>
    cases h
    refine withCar_cases s car (extends_reject s) fun i => ?_
    split
    · exact extends_reject s
    · exact {}
  | setBrake car v => cases h; exact withCar_cases s car (extends_reject s) fun i => {}
  | setLaneChange car v => cases h; exact withCar_cases s car (extends_reject s) fun i => {}
  | getGameState sel =>
    cases h
    obtain ⟨c, r, e⟩ := respondSelected_eq s (gameStateSelector s sel)
    exact e ▸ extends_respond s c r
  | getLastUpdate sel =>
    cases h
    obtain ⟨c, r, e⟩ := respondSelected_eq s (lastUpdateSelector s sel)
    exact e ▸ extends_respond s c r
  | ledReset => cases h; exact {}
  | rxByte data =>
    cases h
    split
    · exact extends_receiveByte s data
    · exact .refl s
  | txReady =>
    cases h
    split
    · exact extends_transmitByte s
    · exact .refl s
  | ioError => cases h; exact {}
  | watchdogTick =>
    cases h
    split
    · exact extends_reconnect s
    · exact .refl s
  | timerTick =>
    cases h
    split
    · dsimp only
      split
      · exact .trans (t := { s with finishPending := false }) {} (extends_finishRace _)
      · exact {}
    · exact .refl s

/-- What a word that names no instruction does (R94, R100). -/
theorem runWord_of_decode_error {w : PortWord} {r : DecodeReject} (h : decode w = .error r) (s : State) :
    runWord w s = .next (reject s) ∨ runWord w s = .next (setIllegalEvent s) := by
  cases w with
  | command w => exact .inl (by simp only [runWord, h]; rfl)
  | event e => exact .inr (by simp only [runWord, h]; rfl)

theorem runWord_extends {w : PortWord} (h : runWord w s = .next t) : Extends s t := by
  cases hd : decode w with
  | ok i => exact exec_extends (runWord_of_decode_ok hd s ▸ h)
  | error r =>
    rcases runWord_of_decode_error hd s with e | e <;> cases e.symm.trans h
    · exact extends_reject s
    · exact {}

/-- Settles O56: a step presents its input and runs one word, and every procedure a word runs extends the outputs. -/
theorem outputsOnlyGrowAndFaultsStick : Obligations.OutputsOnlyGrowAndFaultsStick := by
  intro s t inp rest hin hstep
  rw [step_of_inputs_cons hin] at hstep
  have h : Extends (present inp rest s) t := runWord_extends hstep
  exact ⟨h.eventQ_grows, h.diagLog, h.txOut, h.overflow_sticks, h.illegal, h.params, h.inputs, h.clock⟩

end Sys2Proof.Machine
end

section
/-! Counts over the six slots, and the sorted order `rank` writes. -/

namespace Sys2Proof.Machine

theorem countSlots_le (f : Slot → Bool) : countSlots f ≤ 6 := List.countP_le_length

/-- Setting one clear flag adds one to the count: one case per slot. -/
theorem countSlots_mark {f g : Slot → Bool} {k : Slot} (hk : f k = false) (hg : ∀ i, g i = (decide (i = k) || f i)) :
    countSlots g = countSlots f + 1 := by
  fin_cases k <;> simp_all [countSlots, allSlots, List.countP_cons] <;> omega

theorem maskPopcount_toNat (mask : BitVec 8) :
    (maskPopcount mask).toNat = countSlots fun i : Slot => mask.getLsbD i.val :=
  Nat.mod_eq_of_lt (Nat.lt_of_le_of_lt (countSlots_le _) (by decide))

theorem rankedSlots_perm (cars : PerSlot CarState) : (rankedSlots cars).Perm allSlots :=
  List.perm_insertionSort _ _

theorem rank_positions_toList (s : State) : (rank s).positions.toList = rankedSlots s.cars := by
  have hlen : (rankedSlots s.cars).length = 6 := (rankedSlots_perm s.cars).length_eq
  refine List.ext_getElem (by simp [hlen]) fun n _ hn => ?_
  simp [List.getElem?_eq_getElem hn]

/-- What a car's update leaves alone, it leaves alone on every slot. -/
theorem updateCar_keeps {α : Type} (F : CarState → α) {g : CarState → CarState} (hg : ∀ c, F (g c) = F c) (s : State)
    (k i : Slot) : F (updateCar k g s).cars[i] = F s.cars[i] := by
  rw [updateCar_get]
  split
  · next h => rw [h, hg]
  · rfl

/-- What holds of every car and of the record written holds of every car after the write. -/
theorem updateCar_forall (P : CarState → Prop) {g : CarState → CarState} {s : State} {k : Slot} (hk : P (g s.cars[k]))
    (h : ∀ i : Slot, P s.cars[i]) (i : Slot) : P (updateCar k g s).cars[i] := by
  rw [updateCar_get]
  split
  · exact hk
  · exact h i

end Sys2Proof.Machine
end

section
/-! The race's part of the invariant. `SameRace` relates states that differ in nothing this part reads. -/

namespace Sys2Proof.Machine

variable {s t u : State}

/-- The clauses of `State.Inv` about the cars, the counts, the positions and the progress of a race. -/
structure RaceInv (s : State) : Prop where
  active_count : s.activeCarCount.toNat = countSlots fun i => s.cars[i].active
  finished_count : s.finishedCarCount.toNat = countSlots fun i => s.cars[i].finished
  finished_active : ∀ i : Slot, s.cars[i].finished = true → s.cars[i].active = true
  positions_perm : s.positions.toList.Perm allSlots
  power_rate : ∀ i : Slot, 1 ≤ s.cars[i].powerRate.toNat ∧ s.cars[i].powerRate.toNat ≤ s.params.rateMax.toNat
  starting_pending : s.gameState = .starting → s.ledPhase ≠ .idle
  grid_laps : s.gameState = .countdown ∨ s.gameState = .starting → ∀ i : Slot, s.cars[i].laps = 0
  race_laps : s.gameState = .race → ∀ i : Slot, s.cars[i].laps = 0 ∨ s.cars[i].laps < s.targetLaps

/-- What `RaceInv` reads of a car. -/
def CarState.raceData (c : CarState) : Bool × Bool × BitVec 7 × BitVec 32 := (c.active, c.finished, c.powerRate, c.laps)

/-- `t` has what `RaceInv` reads of `s`. A field a proof leaves out is unchanged. -/
structure SameRace (s t : State) : Prop where
  params : t.params = s.params := by simp
  activeCarCount : t.activeCarCount = s.activeCarCount := by simp
  finishedCarCount : t.finishedCarCount = s.finishedCarCount := by simp
  positions : t.positions = s.positions := by simp
  targetLaps : t.targetLaps = s.targetLaps := by simp
  gameState : t.gameState = s.gameState := by simp
  ledPhase : s.gameState = .starting → s.ledPhase ≠ .idle → t.ledPhase ≠ .idle := by simp
  cars : ∀ i : Slot, t.cars[i].raceData = s.cars[i].raceData := by simp

namespace SameRace

theorem refl (s : State) : SameRace s s := {}

theorem trans (h : SameRace s t) (k : SameRace t u) : SameRace s u where
  params := k.params.trans h.params
  activeCarCount := k.activeCarCount.trans h.activeCarCount
  finishedCarCount := k.finishedCarCount.trans h.finishedCarCount
  positions := k.positions.trans h.positions
  targetLaps := k.targetLaps.trans h.targetLaps
  gameState := k.gameState.trans h.gameState
  ledPhase e := k.ledPhase (h.gameState.trans e) ∘ h.ledPhase e
  cars i := (k.cars i).trans (h.cars i)

theorem active (h : SameRace s t) (i : Slot) : t.cars[i].active = s.cars[i].active := congrArg (·.1) (h.cars i)

theorem finished (h : SameRace s t) (i : Slot) : t.cars[i].finished = s.cars[i].finished := congrArg (·.2.1) (h.cars i)

theorem powerRate (h : SameRace s t) (i : Slot) : t.cars[i].powerRate = s.cars[i].powerRate :=
  congrArg (·.2.2.1) (h.cars i)

theorem laps (h : SameRace s t) (i : Slot) : t.cars[i].laps = s.cars[i].laps := congrArg (·.2.2.2) (h.cars i)

end SameRace

theorem RaceInv.of_same (h : RaceInv s) (k : SameRace s t) : RaceInv t where
  active_count := by simpa only [k.activeCarCount, k.active] using h.active_count
  finished_count := by simpa only [k.finishedCarCount, k.finished] using h.finished_count
  finished_active := by simpa only [k.finished, k.active] using h.finished_active
  positions_perm := k.positions ▸ h.positions_perm
  power_rate := by simpa only [k.params, k.powerRate] using h.power_rate
  starting_pending hg :=
    have hs : s.gameState = .starting := k.gameState.symm.trans hg
    k.ledPhase hs (h.starting_pending hs)
  grid_laps := by simpa only [k.gameState, k.laps] using h.grid_laps
  race_laps := by simpa only [k.gameState, k.laps, k.targetLaps] using h.race_laps

/-! The shared operations. -/

/-- A race-data reset establishes every clause it does not read (R173). -/
theorem raceInv_resetRaceData (hactive : s.activeCarCount.toNat = countSlots fun i => s.cars[i].active)
    (hrate : ∀ i : Slot, 1 ≤ s.cars[i].powerRate.toNat ∧ s.cars[i].powerRate.toNat ≤ s.params.rateMax.toNat)
    (hpending : s.gameState = .starting → s.ledPhase ≠ .idle) : RaceInv (resetRaceData s) where
  active_count := by simpa using hactive
  finished_count := by simp [countSlots]
  finished_active := by simp
  positions_perm := .refl _
  power_rate := by simpa using hrate
  starting_pending := hpending
  grid_laps := by simp
  race_laps := by simp

theorem RaceInv.resetRaceData (h : RaceInv s) : RaceInv (resetRaceData s) :=
  raceInv_resetRaceData h.active_count h.power_rate h.starting_pending

/-- The clauses that hang on the game state say nothing of STOPPED, TRAINING and BINDING. -/
theorem RaceInv.idle (h : RaceInv s) {g : GameState} (hc : g ≠ .countdown) (hs : g ≠ .starting) (hr : g ≠ .race) :
    RaceInv { s with gameState := g } :=
  { h with
    starting_pending := fun e => absurd e hs
    grid_laps := fun e => (e.elim hc hs).elim
    race_laps := fun e => absurd e hr }

theorem sameRace_enqueue (e : Event) : SameRace s (enqueue e s) := {}

theorem sameRace_changed (g : GameState) : SameRace { s with gameState := g } (changed g s) := by
  unfold changed
  exact {}

/-- `set_state` to any state but RACE: the entry effects establish what the new state asks for (R170). -/
theorem RaceInv.setState (h : RaceInv s) {g : GameState} (hr : g ≠ .race) : RaceInv (setState g s) := by
  by_cases hg : s.gameState = g
  · rwa [setState_same s hg]
  by_cases hs : g = .stopped
  · subst hs
    rw [setState_stopped s hg]
    exact (h.idle (by decide) (by decide) (by decide)).of_same ((sameRace_changed .stopped).trans {})
  · rw [setState_resetting s hg hr hs]
    exact raceInv_resetRaceData (by simpa [changed] using h.active_count) (by simpa [changed] using h.power_rate) (by simp)

/-- The promotion of STARTING finds the grid's lap counts at 0 (R149). -/
theorem RaceInv.ledCycle2 (h : RaceInv s) : RaceInv (ledCycle2 s) := by
  by_cases hg : s.gameState = .starting
  · rw [ledCycle2_starting s hg]
    have hrace : RaceInv { s with gameState := .race } :=
      { h with
        starting_pending := by simp
        grid_laps := by simp
        race_laps := fun _ i => .inl (h.grid_laps (.inr hg) i) }
    refine hrace.of_same ?_
    unfold changed cycle2Leds
    exact {}
  · rw [ledCycle2_other s hg]
    refine h.of_same ?_
    unfold cycle2Leds
    exact { ledPhase := fun e => absurd e hg }

theorem RaceInv.ledCycle (h : RaceInv s) : RaceInv (ledCycle s) := by
  unfold Machine.ledCycle
  split
  · exact h
  · exact h.of_same { ledPhase := fun _ _ => show LedPhase.cycle2 ≠ .idle by decide }
  · exact h.ledCycle2

theorem RaceInv.enterWrite (h : RaceInv s) : RaceInv (enterWrite s) :=
  h.ledCycle.of_same {}

theorem RaceInv.rank (h : RaceInv s) : RaceInv (rank s) :=
  { h with positions_perm := by rw [rank_positions_toList]; exact rankedSlots_perm s.cars }

/-! The decode path. -/

theorem RaceInv.bindingStep (h : RaceInv s) : RaceInv (bindingStep s) := by
  unfold Machine.bindingStep
  split
  · exact h.of_same {}
  · exact (h.setState (g := .training) (by decide)).of_same {}

theorem sameRace_updateCar (k : Slot) {g : CarState → CarState} (hg : ∀ c, (g c).raceData = c.raceData) :
    SameRace s (updateCar k g s) where
  cars := updateCar_keeps CarState.raceData hg s k

theorem sameRace_recordCrossing (k : Slot) (now : Time) : SameRace s (recordCrossing k now s) := by
  refine (sameRace_updateCar k (g := fun car => { car with lastCrossingTime := now }) fun _ => rfl).trans ?_
  unfold recordCrossing
  dsimp only
  split
  · refine .trans ?_ (sameRace_enqueue _)
    split
    · exact sameRace_updateCar k fun _ => rfl
    · exact .refl _
  · exact sameRace_updateCar k fun _ => rfl

/-- The obligations of writing one car's record, with the finished count beside it. -/
theorem RaceInv.updateCar (h : RaceInv s) {k : Slot} {g : CarState → CarState} {n : BitVec 3}
    (hactive : ∀ c, (g c).active = c.active)
    (hcount : n.toNat = countSlots fun i => (updateCar k g s).cars[i].finished)
    (hfin : (g s.cars[k]).finished = true → s.cars[k].active = true)
    (hrate : 1 ≤ (g s.cars[k]).powerRate.toNat ∧ (g s.cars[k]).powerRate.toNat ≤ s.params.rateMax.toNat)
    (hgrid : s.gameState = .countdown ∨ s.gameState = .starting → (g s.cars[k]).laps = 0)
    (hrace : s.gameState = .race → (g s.cars[k]).laps = 0 ∨ (g s.cars[k]).laps < s.targetLaps) :
    RaceInv { updateCar k g s with finishedCarCount := n } where
  active_count := by
    simp only [updateCar_keeps (·.active) hactive]
    exact h.active_count
  finished_count := hcount
  finished_active :=
    updateCar_forall (fun c => c.finished = true → c.active = true) (fun e => (hactive _).trans (hfin e)) h.finished_active
  positions_perm := h.positions_perm
  power_rate :=
    updateCar_forall (fun c => 1 ≤ c.powerRate.toNat ∧ c.powerRate.toNat ≤ s.params.rateMax.toNat) hrate h.power_rate
  starting_pending := h.starting_pending
  grid_laps e := updateCar_forall (·.laps = 0) (hgrid e) (h.grid_laps e)
  race_laps e := updateCar_forall (fun c => c.laps = 0 ∨ c.laps < s.targetLaps) (hrace e) (h.race_laps e)

theorem RaceInv.finished_count_updateCar (h : RaceInv s) (k : Slot) {g : CarState → CarState}
    (hg : ∀ c, (g c).finished = c.finished) :
    s.finishedCarCount.toNat = countSlots fun i => (Machine.updateCar k g s).cars[i].finished := by
  simp only [updateCar_keeps (·.finished) hg]
  exact h.finished_count

/-- The count and the flag of a car that finishes move together (R220). -/
theorem RaceInv.finishCar (h : RaceInv s) {k : Slot} (ha : s.cars[k].active = true) (hf : s.cars[k].finished = false) :
    RaceInv { Machine.updateCar k (fun car => { car with finished := true }) s with
      finishedCarCount := s.finishedCarCount + 1 } := by
  refine h.updateCar (fun _ => rfl) ?_ (fun _ => ha) (h.power_rate k) (fun e => h.grid_laps e k) (fun e => h.race_laps e k)
  have hcount : (countSlots fun i => (Machine.updateCar k (fun car => { car with finished := true }) s).cars[i].finished) =
      (countSlots fun i => s.cars[i].finished) + 1 :=
    countSlots_mark (k := k) hf fun i => by
      rw [updateCar_get]
      by_cases hi : i = k <;> simp [hi]
  have hle := countSlots_le fun i => (Machine.updateCar k (fun car => { car with finished := true }) s).cars[i].finished
  rw [hcount, ← h.finished_count] at hle ⊢
  rw [BitVec.toNat_add]
  exact Nat.mod_eq_of_lt (Nat.lt_of_le_of_lt hle (by decide))

/-- A lap is counted where the race, if there is one, has not reached its target with it (R220). -/
theorem RaceInv.addLap (h : RaceInv s) {k : Slot} (hc : s.gameState ≠ .countdown) (hs : s.gameState ≠ .starting)
    (hr : s.gameState = .race → s.cars[k].laps.toNat + 1 < s.targetLaps.toNat) :
    RaceInv (Machine.updateCar k (fun car => { car with laps := car.laps + 1 }) s) := by
  refine h.updateCar (g := fun car => { car with laps := car.laps + 1 }) (n := s.finishedCarCount) (fun _ => rfl) ?_
    (h.finished_active k) (h.power_rate k) (fun e => (e.elim hc hs).elim) fun e => ?_
  · exact h.finished_count_updateCar k fun _ => rfl
  · have := hr e
    right
    bv_omega

/-- `SET_POWER_RATE` with a rate in range (R39, R181). -/
theorem RaceInv.setRate (h : RaceInv s) {k : Slot} {r : BitVec 7} (hr : 1 ≤ r.toNat ∧ r.toNat ≤ s.params.rateMax.toNat) :
    RaceInv (Machine.updateCar k (fun car => { car with powerRate := r }) s) := by
  exact h.updateCar (g := fun car => { car with powerRate := r }) (n := s.finishedCarCount) (fun _ => rfl)
    (h.finished_count_updateCar k fun _ => rfl) (h.finished_active k) hr (fun e => h.grid_laps e k)
    (fun e => h.race_laps e k)

theorem RaceInv.countLap (h : RaceInv s) {k : Slot} (hk : crossingCounts s k = true) : RaceInv (countLap k s) := by
  unfold Machine.countLap
  split
  · next hfinish =>
    have hflags : s.cars[k].active = true ∧ s.cars[k].finished = false := by
      simpa [crossingCounts, hfinish.1] using hk
    dsimp only
    split
    · exact (h.finishCar hflags.1 hflags.2).of_same {}
    · exact h.finishCar hflags.1 hflags.2
  · next hgo =>
    have hstate : s.gameState = .training ∨ s.gameState = .race := by
      simp only [crossingCounts, Bool.or_eq_true, Bool.and_eq_true, decide_eq_true_eq] at hk
      exact hk.imp_right (·.1.1)
    refine h.addLap ?_ ?_ fun e => ?_
    · rcases hstate with e | e <;> simp [e]
    · rcases hstate with e | e <;> simp [e]
    · simpa [e, reachedTarget] using hgo

theorem RaceInv.crossing (h : RaceInv s) (k : Slot) (now : Time) : RaceInv (crossing k now s) := by
  have hsame : SameRace s (recordCrossing k now s) := sameRace_recordCrossing k now
  unfold Machine.crossing
  split
  · next hk =>
    rw [lapBookkeeping_eq]
    refine (h.of_same hsame).countLap ?_
    simpa only [crossingCounts, hsame.gameState, hsame.active, hsame.finished] using hk
  · split
    · exact RaceInv.setState (h.of_same {}) (by decide)
    · exact h

theorem RaceInv.updateCheck (h : RaceInv s) (now : Time) : RaceInv (updateCheck now s) := by
  unfold Machine.updateCheck
  split
  · exact h.rank.of_same {}
  · exact h

theorem RaceInv.crossingStep (h : RaceInv s) (f g : InFrame) : RaceInv (crossingStep f g s) := by
  have htime (now : Time) : RaceInv (setGameTime now s) := by
    unfold setGameTime
    split
    · exact h.of_same {}
    · exact h
  rw [crossingStep_eq]
  split
  · exact h
  · refine RaceInv.updateCheck ?_ _
    cases crossingSlot (carIn f) with
    | none => exact htime _
    | some k => exact (htime _).crossing k _

theorem RaceInv.onFrame (h : RaceInv s) (f g : InFrame) : RaceInv (onFrame f g s) := by
  unfold Machine.onFrame
  split
  · exact h.bindingStep
  · have hconn : RaceInv (connectivityStep f s) := h.of_same {}
    have hdrive : RaceInv (driveStep f g (connectivityStep f s)) := hconn.of_same {}
    exact (hdrive.crossingStep f g).of_same {}

/-! The link cycle, the timers and the watchdog. -/

theorem RaceInv.connectCheck (h : RaceInv s) : RaceInv (connectCheck s) := by
  unfold Machine.connectCheck
  split
  · exact h
  · exact (RaceInv.resetRaceData (s := log .connected { s with linkConnected := true }) (h.of_same {})).of_same {}

theorem RaceInv.acceptFrame (h : RaceInv s) (f : InFrame) : RaceInv (acceptFrame f s) := by
  have hstart : RaceInv { s with lastUpdate := s.clock } := h.of_same {}
  rw [acceptFrame_eq]
  exact (hstart.connectCheck.onFrame f s.prevFrame).of_same {}

theorem RaceInv.completeFrame (h : RaceInv s) : RaceInv (completeFrame s) := by
  unfold Machine.completeFrame
  refine RaceInv.enterWrite ?_
  split
  · exact (h.acceptFrame s.rxBuf).of_same {}
  · exact h.of_same {}

theorem RaceInv.receiveByte (h : RaceInv s) (b : Byte) : RaceInv (receiveByte b s) := by
  have hstore : RaceInv (storeRx b s) := h.of_same {}
  unfold Machine.receiveByte
  dsimp only
  split
  · exact hstore.completeFrame
  · exact hstore

theorem RaceInv.transmitByte (h : RaceInv s) : RaceInv (transmitByte s) := by
  unfold Machine.transmitByte
  split
  · dsimp only
    split <;> exact h.of_same {}
  · exact h

theorem RaceInv.finishRace (h : RaceInv s) : RaceInv (finishRace s) :=
  (h.setState (g := .stopped) (by decide)).rank.of_same (sameRace_enqueue _)

theorem RaceInv.reconnect (h : RaceInv s) : RaceInv (reconnect s) :=
  RaceInv.enterWrite (h.of_same {})

end Sys2Proof.Machine
end

section
/-! The race's part of the invariant, instruction by instruction. -/

namespace Sys2Proof.Machine

variable {s t : State}

theorem RaceInv.respond (h : RaceInv s) (c : CmdStatus) (r : BitVec 32) : RaceInv (respond c r s) := h.of_same {}

theorem RaceInv.reject (h : RaceInv s) : RaceInv (reject s) := h.respond _ _

/-- `INIT` counts the cars its mask selects, and its race-data reset clears whoever had finished (R177). -/
theorem RaceInv.initRace (h : RaceInv s) (laps : BitVec 32) (mask : BitVec 8) :
    RaceInv { Machine.resetRaceData (activate mask s) with targetLaps := laps } := by
  have hreset : RaceInv (Machine.resetRaceData (activate mask s)) :=
    raceInv_resetRaceData (by simpa using maskPopcount_toNat mask) (by simpa using h.power_rate) h.starting_pending
  exact { hreset with race_laps := fun _ i => .inl (by simp) }

/-- What the parameters' constraints say of the rates (R95, R181). -/
theorem Params.rates_of_wf {p : Params} (h : p.wf = true) :
    p.rateMin.toNat = 1 ∧ p.rateMax.toNat ≤ 100 ∧ 1 ≤ p.powerRateReset.toNat ∧
      p.powerRateReset.toNat ≤ p.rateMax.toNat := by
  simp only [Params.wf, Bool.and_eq_true, decide_eq_true_eq] at h
  obtain ⟨⟨⟨⟨_, hmin⟩, hmax⟩, hlow⟩, hhigh⟩ := h
  exact ⟨hmin, hmax, hlow, hhigh⟩

theorem exec_raceInv {i : Instr} (hp : s.params.wf = true) (h : RaceInv s) (he : exec i s = .next t) : RaceInv t := by
  cases i with
  | stop => cases he; exact (h.setState (g := .stopped) (by decide)).of_same {}
  | init laps mask =>
    cases he
    split
    · exact h.reject
    · exact ((h.initRace _ mask).setState (by decide)).respond _ _
  | start =>
    cases he
    refine RaceInv.respond ?_ _ _
    split
    · exact h.setState (by decide)
    · exact h
  | bind car =>
    cases he
    refine withCar_cases s car h.reject fun i => ?_
    have hstopped : RaceInv (setState .stopped s) := h.setState (by decide)
    have htarget : RaceInv { setState .stopped s with bindStart := (setState .stopped s).clock, bindTarget := i } :=
      hstopped.of_same {}
    exact (htarget.setState (g := .binding) (by decide)).respond _ _
  | train =>
    cases he
    exact (h.setState (g := .training) (by decide)).resetRaceData.respond _ _
  | setPowerRate car pct =>
    cases he
    refine withCar_cases s car h.reject fun i => ?_
    split
    · exact h.reject
    · next hrange =>
      obtain ⟨hmin, hmax, _⟩ := Params.rates_of_wf hp
      exact (h.setRate (by simp only [BitVec.toNat_setWidth]; bv_omega)).respond _ _
  | setPower car pwr =>
    cases he
    refine withCar_cases s car h.reject fun i => ?_
    split
    · exact h.reject
    · exact h.of_same {}
  | setBrake car v => cases he; exact withCar_cases s car h.reject fun i => h.of_same {}
  | setLaneChange car v => cases he; exact withCar_cases s car h.reject fun i => h.of_same {}
  | getGameState sel =>
    cases he
    obtain ⟨c, r, e⟩ := respondSelected_eq s (gameStateSelector s sel)
    exact e ▸ h.respond c r
  | getLastUpdate sel =>
    cases he
    obtain ⟨c, r, e⟩ := respondSelected_eq s (lastUpdateSelector s sel)
    exact e ▸ h.respond c r
  | ledReset => cases he; exact h.of_same {}
  | rxByte data =>
    cases he
    split
    · exact h.receiveByte data
    · exact h
  | txReady =>
    cases he
    split
    · exact h.transmitByte
    · exact h
  | ioError => cases he; exact h.of_same {}
  | watchdogTick =>
    cases he
    split
    · exact h.reconnect
    · exact h
  | timerTick =>
    cases he
    split
    · have hoff : RaceInv { s with finishPending := false } := h.of_same {}
      dsimp only
      split
      · exact hoff.finishRace
      · exact hoff
    · exact h

end Sys2Proof.Machine
end

section
/-! The link's part of the invariant. -/

namespace Sys2Proof.Machine

variable {s t : State}

/-- The clauses of `State.Inv` about the cursors and the frames. -/
structure LinkInv (s : State) : Prop where
  op_mode : s.opMode = s.params.opModeNormal
  rx_cursor : s.rxCount.toNat ≤ 14 ∧ (s.linkState ≠ .read → s.rxCount = 0)
  tx_cursor : s.txIdx.toNat ≤ 8 ∧ (s.linkState ≠ .write → s.txIdx = 0)
  tx_frame : s.txBuf[0] = s.opMode ∧ crc8 s.params (s.txBuf.toList.take 8) = s.txBuf[8]
  prev_frame : s.prevFrame = Vector.replicate 15 0#8 ∨ frameOk s.params s.prevFrame = true

/-- `t` has the link of `s`. A field a proof leaves out is unchanged. -/
structure SameLink (s t : State) : Prop where
  params : t.params = s.params := by simp
  opMode : t.opMode = s.opMode := by simp
  linkState : t.linkState = s.linkState := by simp
  rxCount : t.rxCount = s.rxCount := by simp
  txIdx : t.txIdx = s.txIdx := by simp
  txBuf : t.txBuf = s.txBuf := by simp
  prevFrame : t.prevFrame = s.prevFrame := by simp

theorem LinkInv.of_same (h : LinkInv s) (k : SameLink s t) : LinkInv t where
  op_mode := by simpa only [k.opMode, k.params] using h.op_mode
  rx_cursor := by simpa only [k.rxCount, k.linkState] using h.rx_cursor
  tx_cursor := by simpa only [k.txIdx, k.linkState] using h.tx_cursor
  tx_frame := by simpa only [k.txBuf, k.opMode, k.params] using h.tx_frame
  prev_frame := by simpa only [k.prevFrame, k.params] using h.prev_frame

theorem perSlot_toList {α : Type} (d : PerSlot α) : d.toList = [d[0], d[1], d[2], d[3], d[4], d[5]] := by
  refine List.ext_getElem (by simp) fun n _ hn => ?_
  match n, hn with
  | 0, _ => rfl
  | 1, _ => rfl
  | 2, _ => rfl
  | 3, _ => rfl
  | 4, _ => rfl
  | 5, _ => rfl

/-- An encoded frame begins with its operation byte and carries its checksum (R113). -/
theorem encodeOut_frame (p : Params) (op led : Byte) (d : PerSlot Byte) :
    (encodeOut p op d led)[0] = op ∧ crc8 p ((encodeOut p op d led).toList.take 8) = (encodeOut p op d led)[8] := by
  refine ⟨rfl, congrArg (crc8 p) ?_⟩
  rw [perSlot_toList]
  rfl

/-- `enter_write` establishes the link's part: the cursors are cleared and the frame is encoded anew (R147). -/
theorem linkInv_enterWrite (hop : s.opMode = s.params.opModeNormal) (hrx : s.rxCount = 0)
    (hprev : s.prevFrame = Vector.replicate 15 0#8 ∨ frameOk s.params s.prevFrame = true) : LinkInv (enterWrite s) where
  op_mode := by simpa using hop
  rx_cursor := by simp [hrx]
  tx_cursor := by simp
  tx_frame := by
    simp only [enterWrite_txBuf, enterWrite_opMode, enterWrite_params]
    exact encodeOut_frame _ _ _ _
  prev_frame := by simpa using hprev

/-- A completed frame is stored as `prev_frame` only where its checksum holds (R143, R144). -/
theorem LinkInv.completeFrame (hop : s.opMode = s.params.opModeNormal)
    (hprev : s.prevFrame = Vector.replicate 15 0#8 ∨ frameOk s.params s.prevFrame = true) : LinkInv (completeFrame s) := by
  unfold Machine.completeFrame
  split
  · next hok =>
    exact linkInv_enterWrite (by simpa [acceptFrame_eq] using hop) rfl (.inr (by simpa [acceptFrame_eq] using hok))
  · exact linkInv_enterWrite hop rfl hprev

theorem LinkInv.receiveByte (h : LinkInv s) (hread : s.linkState = .read) (b : Byte) : LinkInv (receiveByte b s) := by
  unfold Machine.receiveByte
  dsimp only
  split
  · exact LinkInv.completeFrame h.op_mode h.prev_frame
  · next hcount =>
    obtain ⟨hle, -⟩ := h.rx_cursor
    have hlt : (storeRx b s).rxCount.toNat ≤ 14 := by
      simp only [storeRx_rxCount] at hcount ⊢
      bv_omega
    exact { h with rx_cursor := ⟨hlt, fun e => absurd hread e⟩ }

theorem LinkInv.transmitByte (h : LinkInv s) (hwrite : s.linkState = .write) : LinkInv (transmitByte s) := by
  unfold Machine.transmitByte
  split
  · next hidx =>
    dsimp only
    split
    · exact { h with
        rx_cursor := by simp
        tx_cursor := by simp }
    · next hnine =>
      have hlt : (s.txIdx + 1).toNat ≤ 8 := by
        simp only [emit_txIdx] at hnine
        bv_omega
      exact { h with tx_cursor := ⟨hlt, fun e => absurd hwrite e⟩ }
  · exact h

theorem LinkInv.reconnect (h : LinkInv s) : LinkInv (reconnect s) :=
  linkInv_enterWrite h.op_mode rfl h.prev_frame

theorem LinkInv.respond (h : LinkInv s) (c : CmdStatus) (r : BitVec 32) : LinkInv (respond c r s) := h.of_same {}

theorem LinkInv.reject (h : LinkInv s) : LinkInv (reject s) := h.respond _ _

theorem exec_linkInv {i : Instr} (h : LinkInv s) (he : exec i s = .next t) : LinkInv t := by
  cases i with
  | stop => cases he; exact h.of_same {}
  | init laps mask =>
    cases he
    split
    · exact h.reject
    · exact h.of_same {}
  | start =>
    cases he
    split <;> exact h.of_same {}
  | bind car => cases he; exact withCar_cases s car h.reject fun i => h.of_same {}
  | train => cases he; exact h.of_same {}
  | setPowerRate car pct =>
    cases he
    refine withCar_cases s car h.reject fun i => ?_
    split
    · exact h.reject
    · exact h.of_same {}
  | setPower car pwr =>
    cases he
    refine withCar_cases s car h.reject fun i => ?_
    split
    · exact h.reject
    · exact h.of_same {}
  | setBrake car v => cases he; exact withCar_cases s car h.reject fun i => h.of_same {}
  | setLaneChange car v => cases he; exact withCar_cases s car h.reject fun i => h.of_same {}
  | getGameState sel =>
    cases he
    obtain ⟨c, r, e⟩ := respondSelected_eq s (gameStateSelector s sel)
    exact e ▸ h.respond c r
  | getLastUpdate sel =>
    cases he
    obtain ⟨c, r, e⟩ := respondSelected_eq s (lastUpdateSelector s sel)
    exact e ▸ h.respond c r
  | ledReset => cases he; exact h.of_same {}
  | rxByte data =>
    cases he
    split
    · next hread => exact h.receiveByte hread data
    · exact h
  | txReady =>
    cases he
    split
    · next hwrite => exact h.transmitByte hwrite
    · exact h
  | ioError =>
    cases he
    exact { h with
      rx_cursor := by simp
      tx_cursor := by simp }
  | watchdogTick =>
    cases he
    split
    · exact h.reconnect
    · exact h
  | timerTick =>
    cases he
    split
    · dsimp only
      split
      · unfold finishRace
        exact h.of_same {}
      · exact h.of_same {}
    · exact h

end Sys2Proof.Machine
end

section
/-! The invariant, put together from its parts, at power-on and over a step. -/

namespace Sys2Proof.Machine

variable {s t : State}

/-- The clauses of `State.Inv` about the event queue. -/
structure QueueInv (s : State) : Prop where
  queue_bound : ∀ d : Nat, s.params.evqDepth = some d → s.eventQ.length ≤ d
  overflow_bounded : s.params.evqDepth = none → s.fault.evqOverflow = false

/-- What `QueueInv` says, of a queue and its overflow bit. -/
def QueueFits (depth : Option Nat) (q : List Event × Bool) : Prop :=
  (∀ d : Nat, depth = some d → q.1.length ≤ d) ∧ (depth = none → q.2 = false)

theorem queueInv_iff : QueueInv s ↔ QueueFits s.params.evqDepth (s.eventQ, s.fault.evqOverflow) :=
  ⟨fun h => ⟨h.queue_bound, h.overflow_bounded⟩, fun h => ⟨h.1, h.2⟩⟩

/-- A full queue takes no record, and only a bounded one drops one (R228). -/
theorem QueueFits.offer {depth : Option Nat} {q : List Event × Bool} (h : QueueFits depth q) (e : Event) :
    QueueFits depth (offer depth q e) := by
  obtain ⟨hbound, hoverflow⟩ := h
  cases depth with
  | none => exact ⟨by simp, fun _ => hoverflow rfl⟩
  | some d =>
    refine ⟨fun d' hd => ?_, by simp⟩
    obtain rfl : d = d' := Option.some.inj hd
    have := hbound d rfl
    unfold Machine.offer
    dsimp only
    split
    · exact this
    · simp only [List.length_append, List.length_singleton]
      omega

theorem QueueInv.of_extends (h : QueueInv s) (k : Extends s t) : QueueInv t := by
  obtain ⟨evs, hq⟩ := k.queue
  rw [queueInv_iff] at h ⊢
  rw [k.params, hq]
  exact List.foldlRecOn (motive := QueueFits s.params.evqDepth) evs _ h fun q hq e _ => hq.offer e

theorem inv_iff : s.Inv ↔ s.params.wf = true ∧ RaceInv s ∧ LinkInv s ∧ QueueInv s := by
  constructor
  · intro h
    exact ⟨h.params_wf, { h with }, { h with }, { h with }⟩
  · rintro ⟨hwf, hrace, hlink, hqueue⟩
    exact { hrace, hlink, hqueue with params_wf := hwf }

theorem inv_present (h : s.Inv) (inp : Input) (rest : List Input) : (present inp rest s).Inv :=
  { h with queue_bound := fun d hd => (List.drop_sublist _ _).length_le.trans (h.queue_bound d hd) }

theorem exec_keeps_inv {i : Instr} (h : s.Inv) (he : exec i s = .next t) : t.Inv := by
  obtain ⟨hwf, hrace, hlink, hqueue⟩ := inv_iff.1 h
  have hext : Extends s t := exec_extends he
  exact inv_iff.2 ⟨hext.params ▸ hwf, exec_raceInv hwf hrace he, exec_linkInv hlink he, hqueue.of_extends hext⟩

theorem runWord_keeps_inv {w : PortWord} (h : s.Inv) (he : runWord w s = .next t) : t.Inv := by
  cases hd : decode w with
  | ok i => exact exec_keeps_inv h (runWord_of_decode_ok hd s ▸ he)
  | error r => rcases runWord_of_decode_error hd s with e | e <;> cases e.symm.trans he <;> exact { h with }

/-- Settles O55: a step presents its input and runs one word, and each part of the invariant is kept by every instruction. -/
theorem stepKeepsTheInvariant : Obligations.StepKeepsTheInvariant := by
  intro s t h hstep
  cases hin : s.inputs with
  | nil =>
    rw [step, hin] at hstep
    cases hstep
    exact h
  | cons inp rest =>
    rw [step_of_inputs_cons hin] at hstep
    exact runWord_keeps_inv (inv_present h inp rest) hstep

end Sys2Proof.Machine
end

section
/-! Power-on reset. -/

namespace Sys2Proof.Machine

variable (p : Params) (t0 : Time)

theorem powerOn_cars_get (i : Slot) : (State.powerOn p t0).cars[i] = CarState.reset p := by
  simp [State.powerOn]

theorem raceInv_powerOn (h : p.wf = true) : RaceInv (State.powerOn p t0) where
  active_count := by simp only [powerOn_cars_get]; rfl
  finished_count := by simp only [powerOn_cars_get]; rfl
  finished_active i := by
    rw [powerOn_cars_get]
    exact id
  positions_perm := .refl _
  power_rate i := by
    obtain ⟨_, _, hlow, hhigh⟩ := Params.rates_of_wf h
    rw [powerOn_cars_get]
    exact ⟨hlow, hhigh⟩
  starting_pending := by simp [State.powerOn]
  grid_laps := by simp [State.powerOn]
  race_laps := by simp [State.powerOn]

/-- "The last act of reset is enter_write()": the frame is the one it encodes, and nothing else is left to it (R301). -/
theorem enterWrite_powerOn : enterWrite (State.powerOn p t0) = State.powerOn p t0 := rfl

theorem linkInv_powerOn : LinkInv (State.powerOn p t0) := by
  rw [← enterWrite_powerOn]
  exact linkInv_enterWrite rfl rfl (.inl rfl)

theorem queueInv_powerOn : QueueInv (State.powerOn p t0) where
  queue_bound _ _ := Nat.zero_le _
  overflow_bounded _ := rfl

theorem inv_powerOn (h : p.wf = true) : (State.powerOn p t0).Inv :=
  inv_iff.2 ⟨h, raceInv_powerOn p t0 h, linkInv_powerOn p t0, queueInv_powerOn p t0⟩

/-- Settles O54: each part of the invariant holds of the reset table, and R7's own parameters are well formed. -/
theorem powerOnMeetsTheInvariant : Obligations.PowerOnMeetsTheInvariant :=
  ⟨inv_powerOn, inv_powerOn Params.default 0 (by decide)⟩

/-- Settles O8: the fields are the table's by definition; the nine bytes of the first frame are computed. -/
theorem powerOnLeavesTheResetTable : Obligations.PowerOnLeavesTheResetTable := by
  refine ⟨fun p t0 => ?_, by decide +kernel⟩
  have hframes (k : Fin 15) : (State.powerOn p t0).rxBuf[k] = 0x00#8 ∧ (State.powerOn p t0).prevFrame[k] = 0x00#8 := by
    simp [State.powerOn]
  have hslots (i : Slot) : (State.powerOn p t0).drive[i] = 0xFF#8 ∧ (State.powerOn p t0).conn[i] = false ∧
      (State.powerOn p t0).cars[i] = CarState.reset p := by
    simp [State.powerOn]
  exact ⟨rfl, rfl, hframes, rfl, rfl, rfl, rfl, rfl, rfl, rfl, rfl, rfl, rfl, rfl, rfl, rfl, hslots, rfl, rfl, rfl,
    rfl, rfl, rfl, rfl, rfl, rfl, rfl, enterWrite_powerOn p t0⟩

end Sys2Proof.Machine
end

section
/-! What no command touches (O30). -/

namespace Sys2Proof.Machine

variable {s t : State}

/-! The two times of a car record that no race-data reset clears (R173). -/

@[simp] theorem setState_startTime (s : State) (g : GameState) (j : Nat) (h : j < 6) :
    (setState g s).cars[j].startTime = s.cars[j].startTime := by
  unfold setState
  split
  · rfl
  · cases g <;> simp [entryResetsRaceData]

@[simp] theorem setState_lastCrossingTime (s : State) (g : GameState) (j : Nat) (h : j < 6) :
    (setState g s).cars[j].lastCrossingTime = s.cars[j].lastCrossingTime := by
  unfold setState
  split
  · rfl
  · cases g <;> simp [entryResetsRaceData]

@[simp] theorem setState_illegalEvent (s : State) (g : GameState) :
    (setState g s).fault.illegalEvent = s.fault.illegalEvent := (raises_setState s g).2

/-- A car update that writes neither time leaves both on every slot. -/
theorem updateCar_times {g : CarState → CarState}
    (hg : ∀ c, (g c).startTime = c.startTime ∧ (g c).lastCrossingTime = c.lastCrossingTime) (s : State) (k j : Slot) :
    (updateCar k g s).cars[j].startTime = s.cars[j].startTime ∧
      (updateCar k g s).cars[j].lastCrossingTime = s.cars[j].lastCrossingTime :=
  ⟨updateCar_keeps (·.startTime) (fun c => (hg c).1) s k j,
    updateCar_keeps (·.lastCrossingTime) (fun c => (hg c).2) s k j⟩

/-- What every command leaves of `s` in `t`: the link beside its cursors and frames, the times of the decode path, the
timers, the LED byte and the outputs to the line (R70, R221, R308, R309). A field a proof leaves out is unchanged. -/
structure CommandFrame (s t : State) : Prop extends SameLink s t where
  inputs : t.inputs = s.inputs := by simp
  clock : t.clock = s.clock := by simp
  rxBuf : t.rxBuf = s.rxBuf := by simp
  lastUpdate : t.lastUpdate = s.lastUpdate := by simp
  linkConnected : t.linkConnected = s.linkConnected := by simp
  ledStatus : t.ledStatus = s.ledStatus := by simp
  gameTime : t.gameTime = s.gameTime := by simp
  nextUpdate : t.nextUpdate = s.nextUpdate := by simp
  conn : t.conn = s.conn := by simp
  finishPending : t.finishPending = s.finishPending := by simp
  finishDeadline : t.finishDeadline = s.finishDeadline := by simp
  diagLog : t.diagLog = s.diagLog := by simp
  txOut : t.txOut = s.txOut := by simp
  illegalEvent : t.fault.illegalEvent = s.fault.illegalEvent := by simp
  carTimes : ∀ j : Slot, t.cars[j].startTime = s.cars[j].startTime ∧
    t.cars[j].lastCrossingTime = s.cars[j].lastCrossingTime := by simp

theorem commandFrame_respond (s : State) (c : CmdStatus) (r : BitVec 32) : CommandFrame s (respond c r s) := {}

theorem commandFrame_reject (s : State) : CommandFrame s (reject s) := commandFrame_respond s _ _

theorem exec_commandFrame {i : Instr} (hi : i.isCommand = true) (he : exec i s = .next t) : CommandFrame s t := by
  cases i with
  | stop => cases he; exact {}
  | init laps mask =>
    cases he
    split
    · exact commandFrame_reject s
    · exact {}
  | start =>
    cases he
    split <;> exact {}
  | bind car => cases he; exact withCar_cases s car (commandFrame_reject s) fun i => {}
  | train => cases he; exact {}
  | setPowerRate car pct =>
    cases he
    refine withCar_cases s car (commandFrame_reject s) fun i => ?_
    split
    · exact commandFrame_reject s
    · exact { carTimes := updateCar_times (g := fun c => { c with powerRate := pct.setWidth 7 }) (fun _ => ⟨rfl, rfl⟩) s i }
  | setPower car pwr =>
    cases he
    refine withCar_cases s car (commandFrame_reject s) fun i => ?_
    split
    · exact commandFrame_reject s
    · exact {}
  | setBrake car v => cases he; exact withCar_cases s car (commandFrame_reject s) fun i => {}
  | setLaneChange car v => cases he; exact withCar_cases s car (commandFrame_reject s) fun i => {}
  | getGameState sel =>
    cases he
    obtain ⟨c, r, e⟩ := respondSelected_eq s (gameStateSelector s sel)
    exact e ▸ commandFrame_respond s c r
  | getLastUpdate sel =>
    cases he
    obtain ⟨c, r, e⟩ := respondSelected_eq s (lastUpdateSelector s sel)
    exact e ▸ commandFrame_respond s c r
  | ledReset => cases he; exact {}
  | rxByte _ | txReady | ioError | watchdogTick | timerTick => cases hi

/-- Settles O30: every command keeps the fields of `CommandFrame`. -/
theorem commandsLeaveTheLinkAndTheGraceTimerAlone : Obligations.CommandsLeaveTheLinkAndTheGraceTimerAlone := by
  intro i s t hi he
  have h : CommandFrame s t := exec_commandFrame hi he
  exact ⟨h.params, h.inputs, h.clock, h.linkState, h.rxBuf, h.rxCount, h.prevFrame, h.txBuf, h.txIdx, h.lastUpdate,
    h.linkConnected, h.opMode, h.ledStatus, h.gameTime, h.nextUpdate, h.conn, h.finishPending, h.finishDeadline,
    h.diagLog, h.txOut, h.illegalEvent, h.carTimes⟩

end Sys2Proof.Machine
end

section
/-! The line: who sends, who stores and how the link state moves (O57). -/

namespace Sys2Proof.Machine

variable {s t : State}

/-! The line after each procedure of the link cycle. -/

@[simp] theorem completeFrame_txOut (s : State) : (completeFrame s).txOut = s.txOut := by
  unfold completeFrame
  split <;> simp [acceptFrame_eq]

@[simp] theorem receiveByte_txOut (s : State) (b : Byte) : (receiveByte b s).txOut = s.txOut := by
  unfold receiveByte
  dsimp only
  split <;> simp

/-- Only a byte on cursor 14 completes a frame, and a frame good or corrupt leads to WRITE (R141, R143). -/
theorem receiveByte_linkState (s : State) (b : Byte) :
    (receiveByte b s).linkState = if s.rxCount = 14 then .write else s.linkState := by
  have hlast : (storeRx b s).rxCount = 15 ↔ s.rxCount = 14 := by
    rw [storeRx_rxCount]
    bv_omega
  unfold receiveByte
  dsimp only
  simp only [hlast]
  split <;> rfl

@[simp] theorem transmitByte_rxBuf (s : State) : (transmitByte s).rxBuf = s.rxBuf := by
  unfold transmitByte
  split
  · dsimp only
    split <;> rfl
  · rfl

/-- Only the byte on cursor 8 completes a write, which leads to READ (R151, R152). -/
theorem transmitByte_linkState (s : State) :
    (transmitByte s).linkState = if s.txIdx = 8 then .read else s.linkState := by
  unfold transmitByte
  split
  · next hidx =>
    have hlast : (emit s.txBuf[s.txIdx.toNat] s).txIdx + 1 = 9 ↔ s.txIdx = 8 := by
      rw [emit_txIdx]
      bv_omega
    dsimp only
    simp only [hlast]
    split <;> rfl
  · next hidx => rw [if_neg (by rintro h; simp [h] at hidx)]

@[simp] theorem reconnect_txOut (s : State) : (reconnect s).txOut = s.txOut := by simp [reconnect]
@[simp] theorem reconnect_rxBuf (s : State) : (reconnect s).rxBuf = s.rxBuf := by simp [reconnect]

/-! Half-duplex, instruction by instruction. -/

/-- What `i` may do to the line of `s` (R66, R140, R142). -/
structure HalfDuplex (i : Instr) (s t : State) : Prop where
  sent : t.txOut ≠ s.txOut → i = .txReady ∧ s.linkState = .write
  stored : t.rxBuf ≠ s.rxBuf → (∃ b, i = .rxByte b) ∧ s.linkState = .read
  dropped : ∀ b : Byte, i = .rxByte b → s.linkState ≠ .read → t = s
  moved : t.linkState ≠ s.linkState → linkTransition i s t.linkState = true

/-- An instruction that leaves the line alone. -/
theorem HalfDuplex.of_same {i : Instr} (hi : ∀ b, i ≠ .rxByte b) (hsent : t.txOut = s.txOut) (hstored : t.rxBuf = s.rxBuf)
    (hlink : t.linkState = s.linkState) : HalfDuplex i s t where
  sent h := absurd hsent h
  stored h := absurd hstored h
  dropped b h := absurd h (hi b)
  moved h := absurd hlink h

theorem halfDuplex_command {i : Instr} (hi : i.isCommand = true) (he : exec i s = .next t) : HalfDuplex i s t := by
  have h : CommandFrame s t := exec_commandFrame hi he
  refine .of_same ?_ h.txOut h.rxBuf h.linkState
  rintro b rfl
  cases hi

theorem halfDuplex_rxByte {b : Byte} (he : exec (.rxByte b) s = .next t) : HalfDuplex (.rxByte b) s t := by
  cases he
  by_cases hread : s.linkState = .read
  · rw [if_pos hread]
    exact {
      sent h := absurd (receiveByte_txOut s b) h
      stored _ := ⟨⟨b, rfl⟩, hread⟩
      dropped _ _ h := absurd hread h
      moved h := by
        rw [receiveByte_linkState] at h ⊢
        split at h
        · next hlast => simp [linkTransition, hread, hlast]
        · exact absurd rfl h }
  · rw [if_neg hread]
    exact {
      sent h := absurd rfl h
      stored h := absurd rfl h
      dropped _ _ _ := rfl
      moved h := absurd rfl h }

theorem halfDuplex_txReady (he : exec .txReady s = .next t) : HalfDuplex .txReady s t := by
  cases he
  split
  · next hwrite =>
    exact {
      sent _ := ⟨rfl, hwrite⟩
      stored h := absurd (transmitByte_rxBuf s) h
      dropped := nofun
      moved h := by
        rw [transmitByte_linkState] at h ⊢
        split at h
        · next hlast => simp [linkTransition, hwrite, hlast]
        · exact absurd rfl h }
  · exact .of_same nofun rfl rfl rfl

theorem halfDuplex_ioError (he : exec .ioError s = .next t) : HalfDuplex .ioError s t := by
  cases he
  exact {
    sent h := absurd rfl h
    stored h := absurd rfl h
    dropped := nofun
    moved _ := rfl }

theorem halfDuplex_watchdogTick (he : exec .watchdogTick s = .next t) : HalfDuplex .watchdogTick s t := by
  cases he
  split
  · exact {
      sent h := absurd (reconnect_txOut s) h
      stored h := absurd (reconnect_rxBuf s) h
      dropped := nofun
      moved _ := rfl }
  · exact .of_same nofun rfl rfl rfl

theorem halfDuplex_timerTick (he : exec .timerTick s = .next t) : HalfDuplex .timerTick s t := by
  cases he
  split
  · dsimp only
    split
    · exact .of_same nofun (by simp [finishRace]) (by simp [finishRace]) (by simp [finishRace])
    · exact .of_same nofun rfl rfl rfl
  · exact .of_same nofun rfl rfl rfl

theorem exec_halfDuplex {i : Instr} (he : exec i s = .next t) : HalfDuplex i s t := by
  by_cases hi : i.isCommand = true
  · exact halfDuplex_command hi he
  · cases i with
    | rxByte b => exact halfDuplex_rxByte he
    | txReady => exact halfDuplex_txReady he
    | ioError => exact halfDuplex_ioError he
    | watchdogTick => exact halfDuplex_watchdogTick he
    | timerTick => exact halfDuplex_timerTick he
    | _ => exact absurd rfl hi

/-- Settles O57: commands and the timer leave the line alone, and each other event moves it along its own row of R140. -/
theorem linkIsStrictlyHalfDuplex : Obligations.LinkIsStrictlyHalfDuplex := by
  intro i s t he
  have h : HalfDuplex i s t := exec_halfDuplex he
  exact ⟨h.sent, h.stored, h.dropped, h.moved⟩

end Sys2Proof.Machine
end

section
/-! A run of received bytes (O37). -/

namespace Sys2Proof.Machine

/-- `RX_BYTE b` as the environment presents it at the clock value `c` (R98, R99). -/
def rxInput (c : Time) (b : Byte) : Input := { t := c, word := .event (0x1#4 ++ b) }

theorem decode_rxByte (b : Byte) : decode (.event (0x1#4 ++ b)) = .ok (.rxByte b) := by
  have hkind : (0x1#4 ++ b).extractLsb' 8 4 = 0x1#4 := Laws.OnItsPort.high2 0x1#4 b
  have hdata : (0x1#4 ++ b).extractLsb' 0 8 = b := BitVec.extractLsb'_append_eq_right
  simp only [decode, decodeEvent, hkind, hdata]
  rfl

/-- A byte in READ before the fifteenth is stored, and the step does nothing else (R141). -/
theorem step_rxInput {s : State} {b : Byte} {rest : List Input} (hread : s.linkState = .read) (hroom : s.rxCount.toNat < 14)
    (hin : s.inputs = rxInput s.clock b :: rest) : step s = .next (storeRx b { s with inputs := rest }) := by
  have hnotLast : (storeRx b { s with inputs := rest }).rxCount ≠ 15 := by
    rw [storeRx_rxCount]
    bv_omega
  calc step s = exec (.rxByte b) { s with inputs := rest } := by
        rw [step_of_inputs_cons hin]
        exact runWord_of_decode_ok (decode_rxByte b) _
    _ = .next (receiveByte b { s with inputs := rest }) := congrArg Host.Outcome.next (if_pos hread)
    _ = .next (storeRx b { s with inputs := rest }) := congrArg Host.Outcome.next (if_neg hnotLast)

theorem run_succ_of_step {s u : State} {n : Nat} (h : step s = .next u) : core.run (n + 1) s = core.run n u := by
  have h' : core.step s = .next u := h
  simp only [Host.Core.run, h']

/-- The entries of a list up to one just written are the ones before it and the one written. -/
theorem take_set_self {α : Type} {l : List α} {k : Nat} {a : α} (h : k < l.length) :
    (l.set k a).take (k + 1) = l.take k ++ [a] := by
  simp [List.take_add_one, List.take_set_of_le, h]

/-- Bytes received in READ before the fifteenth stand in the buffer from the cursor on, in order; nothing else of the
buffer and nothing beside it and the cursor changes (R61, R64, R141). -/
theorem run_rxInputs (bytes : List Byte) : ∀ s : State, s.linkState = .read → s.rxCount.toNat + bytes.length ≤ 14 →
    s.inputs = bytes.map (rxInput s.clock) →
      ∃ buf : InFrame,
        core.run bytes.length s =
          .next { s with inputs := [], rxBuf := buf, rxCount := s.rxCount + BitVec.ofNat 4 bytes.length } ∧
        buf.toList = s.rxBuf.toList.take s.rxCount.toNat ++ bytes ++
          s.rxBuf.toList.drop (s.rxCount.toNat + bytes.length) := by
  induction bytes with
  | nil =>
    intro s _ _ hin
    refine ⟨s.rxBuf, ?_, by simp⟩
    have hdone : s.inputs = [] := hin
    simp only [List.length_nil, BitVec.add_zero, ← hdone]
    rfl
  | cons b bytes ih =>
    intro s hread hroom hin
    rw [List.length_cons] at hroom
    have hcursor : (s.rxCount + 1).toNat = s.rxCount.toNat + 1 := by bv_omega
    obtain ⟨buf, hrun, hbuf⟩ := ih (storeRx b { s with inputs := bytes.map (rxInput s.clock) }) hread
      (by rw [storeRx_rxCount, hcursor]; omega) rfl
    simp only [storeRx_rxBuf, storeRx_rxCount, hcursor, Vector.toList_setIfInBounds] at hbuf
    refine ⟨buf, ?_, ?_⟩
    · have hcount : s.rxCount + 1 + BitVec.ofNat 4 bytes.length = s.rxCount + BitVec.ofNat 4 (bytes.length + 1) := by
        bv_omega
      rw [List.length_cons, run_succ_of_step (step_rxInput hread (by omega) hin), ← hcount]
      exact hrun
    · rw [hbuf, List.length_cons, take_set_self (by rw [Vector.length_toList]; omega), List.drop_set_of_lt (by omega),
        Nat.add_assoc, Nat.add_comm 1, List.append_assoc _ [b], List.singleton_append]

/-- Settles O37: the fourteen bytes are a run from cursor 0, which ends one short of the fifteenth. -/
theorem fourteenBytesAccumulateInOrder : Obligations.FourteenBytesAccumulateInOrder := by
  intro s x hread hempty hin
  have hlen : x.toList.length = 14 := Vector.length_toList
  obtain ⟨buf, hrun, hbuf⟩ := run_rxInputs x.toList s hread (by simp [hempty]) hin
  simp only [hlen, hempty] at hrun hbuf
  have hfirst : buf.toList.take 14 = x.toList := by simp [hbuf]
  have hlast : buf.toList[14]? = s.rxBuf.toList[14]? := by simp [hbuf]
  exact ⟨_, hrun, rfl, hfirst, by simpa using hlast⟩

end Sys2Proof.Machine
end

section
/-! The decoder and the encoder are inverse, and which words name an instruction (O1, O2, O4). -/

namespace Sys2Proof

/-! A word is the concatenation of parts exactly when its fields are the parts: two, three and four parts. -/

/-- A field of a field, counted from the lowest bit of the word. -/
theorem extractLsb'_extractLsb'_eq {w s l t n : Nat} (x : BitVec w) (h : t + n ≤ l) :
    (x.extractLsb' s l).extractLsb' t n = x.extractLsb' (s + t) n := by
  ext i hi
  simp [Nat.add_assoc, show t + i < l by omega]

theorem append2_eq_iff {m n : Nat} {a : BitVec m} {b : BitVec n} {w : BitVec (m + n)} :
    a ++ b = w ↔ w.extractLsb' n m = a ∧ w.extractLsb' 0 n = b := by
  constructor
  · rintro rfl
    exact ⟨BitVec.extractLsb'_append_eq_left, BitVec.extractLsb'_append_eq_right⟩
  · rintro ⟨rfl, rfl⟩
    exact BitVec.extractLsb'_append_extractLsb'

theorem append3_eq_iff {m n k : Nat} {a : BitVec m} {b : BitVec n} {c : BitVec k} {w : BitVec (m + n + k)} :
    a ++ b ++ c = w ↔ w.extractLsb' (k + n) m = a ∧ w.extractLsb' k n = b ∧ w.extractLsb' 0 k = c := by
  rw [append2_eq_iff, eq_comm, append2_eq_iff, extractLsb'_extractLsb'_eq _ (by omega),
    extractLsb'_extractLsb'_eq _ (by omega), and_assoc, Nat.add_zero]

theorem append4_eq_iff {m n k l : Nat} {a : BitVec m} {b : BitVec n} {c : BitVec k} {d : BitVec l}
    {w : BitVec (m + n + k + l)} :
    a ++ b ++ c ++ d = w ↔
      w.extractLsb' (l + (k + n)) m = a ∧ w.extractLsb' (l + k) n = b ∧ w.extractLsb' l k = c ∧ w.extractLsb' 0 l = d := by
  rw [append2_eq_iff, eq_comm, append3_eq_iff, extractLsb'_extractLsb'_eq _ (by omega),
    extractLsb'_extractLsb'_eq _ (by omega), extractLsb'_extractLsb'_eq _ (by omega),
    and_assoc, and_assoc, Nat.add_zero]

/-! The layouts of the command word (R92, R93) and of the event word (R98). -/

section Layouts

variable {w : BitVec 32} {op car : BitVec 4}

theorem op_rest_eq_iff {rest : BitVec 28} : op ++ rest = w ↔ w.extractLsb' 28 4 = op ∧ w.extractLsb' 0 28 = rest :=
  append2_eq_iff

theorem op_car_rest_eq_iff {rest : BitVec 24} :
    op ++ car ++ rest = w ↔ w.extractLsb' 28 4 = op ∧ w.extractLsb' 24 4 = car ∧ w.extractLsb' 0 24 = rest :=
  append3_eq_iff

theorem op_car_mid_low_eq_iff {mid : BitVec 16} {low : BitVec 8} :
    op ++ car ++ mid ++ low = w ↔
      w.extractLsb' 28 4 = op ∧ w.extractLsb' 24 4 = car ∧ w.extractLsb' 8 16 = mid ∧ w.extractLsb' 0 8 = low :=
  append4_eq_iff

theorem op_car_mid_flag_eq_iff {mid : BitVec 23} {v : BitVec 1} :
    op ++ car ++ mid ++ v = w ↔
      w.extractLsb' 28 4 = op ∧ w.extractLsb' 24 4 = car ∧ w.extractLsb' 1 23 = mid ∧ w.extractLsb' 0 1 = v :=
  append4_eq_iff

theorem op_mid_low_eq_iff {mid : BitVec 20} {low : BitVec 8} :
    op ++ mid ++ low = w ↔ w.extractLsb' 28 4 = op ∧ w.extractLsb' 8 20 = mid ∧ w.extractLsb' 0 8 = low :=
  append3_eq_iff

theorem kind_data_eq_iff {e : BitVec 12} {kind : BitVec 4} {data : BitVec 8} :
    kind ++ data = e ↔ e.extractLsb' 8 4 = kind ∧ e.extractLsb' 0 8 = data :=
  append2_eq_iff

end Layouts

/-! The command decoder (R93, R94). -/

theorem ifZero_eq_ok {zero : Bool} {op : BitVec 4} {i j : Instr} : ifZero zero op j = .ok i ↔ zero = true ∧ j = i := by
  cases zero <;> simp [ifZero]

/-- A row of the opcode map R93 read on the word `w`: its OP, the start and the length of the field it shows as `0`, and
the instruction. -/
inductive CommandRow (w : BitVec 32) : BitVec 4 → Nat → Nat → Instr → Prop
  | stop : CommandRow w 0x1 0 28 .stop
  | init : CommandRow w 0x2 24 4 (.init (w.extractLsb' 8 16) (w.extractLsb' 0 8))
  | start : CommandRow w 0x3 0 28 .start
  | bind : CommandRow w 0x4 0 24 (.bind (w.extractLsb' 24 4))
  | train : CommandRow w 0x5 0 28 .train
  | setPowerRate : CommandRow w 0x6 8 16 (.setPowerRate (w.extractLsb' 24 4) (w.extractLsb' 0 8))
  | setPower : CommandRow w 0x7 8 16 (.setPower (w.extractLsb' 24 4) (w.extractLsb' 0 8))
  | setBrake : CommandRow w 0x8 1 23 (.setBrake (w.extractLsb' 24 4) (w.extractLsb' 0 1))
  | setLaneChange : CommandRow w 0x9 1 23 (.setLaneChange (w.extractLsb' 24 4) (w.extractLsb' 0 1))
  | getGameState : CommandRow w 0xA 8 20 (.getGameState (w.extractLsb' 0 8))
  | getLastUpdate : CommandRow w 0xB 8 20 (.getLastUpdate (w.extractLsb' 0 8))
  | ledReset : CommandRow w 0xC 0 28 .ledReset

/-- The command decoder accepts a word exactly when a row has its OP and the row's zero field is zero (R93, R94). -/
theorem decodeCommand_eq_ok_iff {w : BitVec 32} {i : Instr} :
    decodeCommand w = .ok i ↔
      ∃ op start len, CommandRow w op start len i ∧ w.extractLsb' 28 4 = op ∧ w.extractLsb' start len = 0 := by
  constructor
  · intro h
    simp only [decodeCommand] at h
    split at h
    case h_13 => cases h
    all_goals
      rename_i hop
      obtain ⟨hzero, rfl⟩ := ifZero_eq_ok.1 h
      exact ⟨_, _, _, by constructor, BitVec.eq_of_toNat_eq (by exact hop), eq_of_beq hzero⟩
  · rintro ⟨op, start, len, row, hop, hzero⟩
    cases row <;> simp [decodeCommand, ifZero, hop, hzero]

/-- A row's word is its OP, the zero field and the operands put together, and the operands are its fields (R93). -/
theorem commandRow_iff_encode {w : BitVec 32} {i : Instr} :
    (∃ op start len, CommandRow w op start len i ∧ w.extractLsb' 28 4 = op ∧ w.extractLsb' start len = 0) ↔
      encode i = .command w := by
  constructor
  · rintro ⟨op, start, len, row, hop, hzero⟩
    cases row with
    | stop | start | train | ledReset => exact congrArg _ (op_rest_eq_iff.2 ⟨hop, hzero⟩)
    | bind => exact congrArg _ (op_car_rest_eq_iff.2 ⟨hop, rfl, hzero⟩)
    | init => exact congrArg _ (op_car_mid_low_eq_iff.2 ⟨hop, hzero, rfl, rfl⟩)
    | setPowerRate | setPower => exact congrArg _ (op_car_mid_low_eq_iff.2 ⟨hop, rfl, hzero, rfl⟩)
    | setBrake | setLaneChange => exact congrArg _ (op_car_mid_flag_eq_iff.2 ⟨hop, rfl, hzero, rfl⟩)
    | getGameState | getLastUpdate => exact congrArg _ (op_mid_low_eq_iff.2 ⟨hop, hzero, rfl⟩)
  · intro h
    cases i with
    | stop | start | train | ledReset =>
      obtain ⟨hop, hzero⟩ := op_rest_eq_iff.1 (PortWord.command.inj h)
      exact ⟨_, _, _, by constructor, hop, hzero⟩
    | bind car =>
      obtain ⟨hop, rfl, hzero⟩ := op_car_rest_eq_iff.1 (PortWord.command.inj h)
      exact ⟨_, _, _, .bind, hop, hzero⟩
    | init laps mask =>
      obtain ⟨hop, hzero, rfl, rfl⟩ := op_car_mid_low_eq_iff.1 (PortWord.command.inj h)
      exact ⟨_, _, _, .init, hop, hzero⟩
    | setPowerRate car low | setPower car low =>
      obtain ⟨hop, rfl, hzero, rfl⟩ := op_car_mid_low_eq_iff.1 (PortWord.command.inj h)
      exact ⟨_, _, _, by constructor, hop, hzero⟩
    | setBrake car v | setLaneChange car v =>
      obtain ⟨hop, rfl, hzero, rfl⟩ := op_car_mid_flag_eq_iff.1 (PortWord.command.inj h)
      exact ⟨_, _, _, by constructor, hop, hzero⟩
    | getGameState sel | getLastUpdate sel =>
      obtain ⟨hop, hzero, rfl⟩ := op_mid_low_eq_iff.1 (PortWord.command.inj h)
      exact ⟨_, _, _, by constructor, hop, hzero⟩
    | rxByte | txReady | ioError | watchdogTick | timerTick => cases h

/-! The event decoder (R99, R100). -/

/-- The event decoder accepts the words of the events and no other (R99, R100). -/
theorem decodeEvent_eq_ok_iff {e : BitVec 12} {i : Instr} : decodeEvent e = .ok i ↔ encode i = .event e := by
  constructor
  · intro h
    simp only [decodeEvent] at h
    split at h
    case h_1 hkind =>
      cases h
      exact congrArg _ (kind_data_eq_iff.2 ⟨BitVec.eq_of_toNat_eq hkind, rfl⟩)
    case h_6 => cases h
    all_goals
      rename_i hkind
      split at h <;> cases h
      rename_i hzero
      exact congrArg _ (kind_data_eq_iff.2 ⟨BitVec.eq_of_toNat_eq hkind, eq_of_beq hzero⟩)
  · intro h
    cases i with
    | rxByte data =>
      obtain ⟨hkind, rfl⟩ := kind_data_eq_iff.1 (PortWord.event.inj h)
      simp [decodeEvent, hkind]
    | txReady | ioError | watchdogTick | timerTick => cases h; decide
    | _ => cases h

/-! Both ports. -/

/-- The decoder reads an instruction from its own word and from no other (R93, R99, R106). -/
theorem decode_eq_ok_iff {w : PortWord} {i : Instr} : decode w = .ok i ↔ encode i = w := by
  cases w with
  | command w => exact decodeCommand_eq_ok_iff.trans commandRow_iff_encode
  | event e => exact decodeEvent_eq_ok_iff

/-- Settles O1: an instruction's word is its own. -/
theorem decodeOfEncodeIsTheInstruction : Obligations.DecodeOfEncodeIsTheInstruction :=
  fun _ => decode_eq_ok_iff.2 rfl

/-- Settles O2: the decoder accepts no other word for an instruction. -/
theorem encodeOfDecodeIsTheWord : Obligations.EncodeOfDecodeIsTheWord :=
  fun _ _ => decode_eq_ok_iff.1

/-! Masks and matches (O4). -/

/-- The mask of a row of R93: the OP and the zero field of `len` bits from `start` on. -/
def rowMask (start len : Nat) : BitVec 32 := 0xF#4 ++ (BitVec.allOnes len).setWidth 28 <<< start

/-- A field is zero exactly when the word and the field's mask have no bit in common. -/
theorem and_fieldMask_eq_zero_iff {n start len : Nat} {x : BitVec n} (h : start + len ≤ n) :
    x &&& (BitVec.allOnes len).setWidth n <<< start = 0#n ↔ x.extractLsb' start len = 0#len := by
  constructor
  · intro hx
    ext i hi
    have hbit := congrArg (BitVec.getLsbD · (start + i)) hx
    simpa [hi, show start + i < n by omega, show i < n by omega] using hbit
  · intro hx
    ext i hi
    suffices x.getLsbD i = true → start ≤ i → len ≤ i - start by
      simpa [← BitVec.getLsbD_eq_getElem, hi, show i - start < n by omega] using this
    intro hset hstart
    by_contra hlen
    have hbit := congrArg (BitVec.getLsbD · (i - start)) hx
    simp [Nat.add_sub_of_le hstart, hset, hlen] at hbit

/-- A word matches a row's mask with the row's OP exactly when it has that OP and the zero field is zero. -/
theorem and_rowMask_eq_iff {w : BitVec 32} {op : BitVec 4} {start len : Nat} (h : start + len ≤ 28) :
    w &&& rowMask start len = op ++ 0#28 ↔ w.extractLsb' 28 4 = op ∧ w.extractLsb' start len = 0 := by
  obtain ⟨hop, hfield⟩ := op_rest_eq_iff.1 (rfl : _ = rowMask start len)
  rw [eq_comm, op_rest_eq_iff, BitVec.extractLsb'_and, BitVec.extractLsb'_and, hop, hfield,
    and_fieldMask_eq_zero_iff h, extractLsb'_extractLsb'_eq w h, Nat.zero_add]
  exact and_congr_left' (by rw [show 0xF#4 = BitVec.allOnes 4 from rfl, BitVec.and_allOnes])

/-- Every row's zero field lies below the OP. -/
theorem CommandRow.end_le {w : BitVec 32} {op : BitVec 4} {start len : Nat} {i : Instr}
    (row : CommandRow w op start len i) : start + len ≤ 28 := by
  cases row <;> decide

/-- A word that matches the mask and match of a row of R93 is accepted. -/
theorem CommandRow.exists_decode {w : BitVec 32} {op : BitVec 4} {start len : Nat} {i : Instr}
    (row : CommandRow w op start len i) (hmatch : w &&& rowMask start len = op ++ 0#28) :
    ∃ i, decode (.command w) = .ok i :=
  ⟨i, decodeCommand_eq_ok_iff.2 ⟨op, start, len, row, (and_rowMask_eq_iff row.end_le).1 hmatch⟩⟩

/-- Settles O4. The masks and matches of the statement are the ones of the rows, evaluated. -/
theorem wordNamesAnInstructionExactlyWhenNotReserved : Obligations.WordNamesAnInstructionExactlyWhenNotReserved := by
  refine ⟨fun w => ⟨?_, ?_⟩, fun e => ⟨?_, ?_⟩⟩
  · rintro ⟨i, h⟩
    obtain ⟨op, start, len, row, hfields⟩ := decodeCommand_eq_ok_iff.1 h
    have hmatch := (and_rowMask_eq_iff row.end_le).2 hfields
    cases row with
    | stop => exact .inl hmatch
    | init => exact .inr (.inl hmatch)
    | start => exact .inr (.inr (.inl hmatch))
    | bind => exact .inr (.inr (.inr (.inl hmatch)))
    | train => exact .inr (.inr (.inr (.inr (.inl hmatch))))
    | setPowerRate => exact .inr (.inr (.inr (.inr (.inr (.inl hmatch)))))
    | setPower => exact .inr (.inr (.inr (.inr (.inr (.inr (.inl hmatch))))))
    | setBrake => exact .inr (.inr (.inr (.inr (.inr (.inr (.inr (.inl hmatch)))))))
    | setLaneChange => exact .inr (.inr (.inr (.inr (.inr (.inr (.inr (.inr (.inl hmatch))))))))
    | getGameState => exact .inr (.inr (.inr (.inr (.inr (.inr (.inr (.inr (.inr (.inl hmatch)))))))))
    | getLastUpdate => exact .inr (.inr (.inr (.inr (.inr (.inr (.inr (.inr (.inr (.inr (.inl hmatch))))))))))
    | ledReset => exact .inr (.inr (.inr (.inr (.inr (.inr (.inr (.inr (.inr (.inr (.inr hmatch))))))))))
  · rintro (h | h | h | h | h | h | h | h | h | h | h | h)
    · exact CommandRow.stop.exists_decode h
    · exact CommandRow.init.exists_decode h
    · exact CommandRow.start.exists_decode h
    · exact CommandRow.bind.exists_decode h
    · exact CommandRow.train.exists_decode h
    · exact CommandRow.setPowerRate.exists_decode h
    · exact CommandRow.setPower.exists_decode h
    · exact CommandRow.setBrake.exists_decode h
    · exact CommandRow.setLaneChange.exists_decode h
    · exact CommandRow.getGameState.exists_decode h
    · exact CommandRow.getLastUpdate.exists_decode h
    · exact CommandRow.ledReset.exists_decode h
  · rintro ⟨i, h⟩
    rw [decode_eq_ok_iff] at h
    cases i with
    | rxByte data => exact .inl (kind_data_eq_iff.1 (PortWord.event.inj h)).1
    | txReady | ioError | watchdogTick | timerTick => cases h; decide
    | _ => cases h
  · rintro (hkind | rfl | rfl | rfl | rfl)
    · exact ⟨.rxByte (e.extractLsb' 0 8), decode_eq_ok_iff.2 (congrArg _ (kind_data_eq_iff.2 ⟨hkind, rfl⟩))⟩
    · exact ⟨.txReady, decode_eq_ok_iff.2 rfl⟩
    · exact ⟨.ioError, decode_eq_ok_iff.2 rfl⟩
    · exact ⟨.watchdogTick, decode_eq_ok_iff.2 rfl⟩
    · exact ⟨.timerTick, decode_eq_ok_iff.2 rfl⟩

end Sys2Proof
end

section
/-! The read selectors (O27). -/

namespace Sys2Proof.Machine

/-! The packed positions (R96). -/

/-- A slot put three bits each above the `k` slots so far is a further digit in base 8. -/
theorem toNat_or_slot {acc : BitVec 32} {n k : Nat} (i : Slot) (hacc : acc.toNat = n) (hn : n < 8 ^ k) (hk : k < 6) :
    (acc ||| (BitVec.ofNat 32 i.val <<< (3 * k))).toNat = n + i.val * 8 ^ k := by
  have hfit : i.val * 8 ^ k < 2 ^ 32 :=
    calc i.val * 8 ^ k ≤ 7 * 8 ^ 5 := Nat.mul_le_mul (by omega) (Nat.pow_le_pow_right (by decide) (by omega))
      _ < 2 ^ 32 := by decide
  rw [show 8 ^ k = 2 ^ (3 * k) from (pow_mul 2 3 k).symm] at *
  rw [BitVec.toNat_or, BitVec.toNat_shiftLeft, BitVec.toNat_ofNat, Nat.mod_eq_of_lt (show i.val < 2 ^ 32 by omega),
    Nat.shiftLeft_eq, Nat.mod_eq_of_lt hfit, hacc, Nat.or_comm, Nat.mul_comm, ← Nat.two_pow_add_eq_or_of_lt hn, Nat.add_comm]

/-- The packed positions are the six slots as digits in base 8, entry 0 lowest. -/
theorem packPositions_toNat (pos : PerSlot Slot) :
    (packPositions pos).toNat =
      0 + pos[0].val * 8 ^ 0 + pos[1].val * 8 ^ 1 + pos[2].val * 8 ^ 2 + pos[3].val * 8 ^ 3 + pos[4].val * 8 ^ 4 +
        pos[5].val * 8 ^ 5 := by
  have h0 := toNat_or_slot (acc := 0) (n := 0) (k := 0) pos[0] rfl (by decide) (by decide)
  have h1 := toNat_or_slot (k := 1) pos[1] h0 (by omega) (by decide)
  have h2 := toNat_or_slot (k := 2) pos[2] h1 (by omega) (by decide)
  have h3 := toNat_or_slot (k := 3) pos[3] h2 (by omega) (by decide)
  have h4 := toNat_or_slot (k := 4) pos[4] h3 (by omega) (by decide)
  exact toNat_or_slot (k := 5) pos[5] h4 (by omega) (by decide)

/-- Each digit of the packed positions is its entry. -/
theorem packPositions_digit (pos : PerSlot Slot) (k : Slot) :
    (packPositions pos).toNat / 8 ^ k.val % 8 = pos[k].val := by
  rw [packPositions_toNat]
  match k with
  | 0 | 1 | 2 | 3 | 4 | 5 => simp; omega

theorem packPositions_lt (pos : PerSlot Slot) : (packPositions pos).toNat < 2 ^ 18 := by
  rw [packPositions_toNat]
  omega

/-! The two halves of a 64-bit value (R96). -/

theorem lowHalf_toNat (x : Time) : (lowHalf x).toNat = x.toNat % 2 ^ 32 := by
  simp [lowHalf]

theorem highHalf_toNat (x : Time) : (highHalf x).toNat = x.toNat / 2 ^ 32 := by
  rw [highHalf, BitVec.extractLsb'_toNat, Nat.shiftRight_eq_div_pow, Nat.mod_eq_of_lt]
  omega

/-! The selectors. -/

/-- A selector's command answers the value, or rejects where there is none; it writes the response alone (R185, R186). -/
theorem respondSelected_eq_response (value : Option (BitVec 32)) (s : State) :
    respondSelected value s =
      { s with cmdStatus := if value.isSome then .ok else .invalidArgument, cmdResult := value.getD 0 } := by
  cases value <;> rfl

/-- R96 lists `GET_GAME_STATE`'s selectors 0 to 6. -/
theorem gameStateSelector_isSome (s : State) (sel : BitVec 8) :
    (gameStateSelector s sel).isSome = decide (sel.toNat ≤ 6) := by
  unfold gameStateSelector
  split
  case h_8 => grind
  all_goals simp [*]

theorem gameStateSelector_none {s : State} {sel : BitVec 8} (h : 6 < sel.toNat) : gameStateSelector s sel = none := by
  rw [← Option.not_isSome_iff_eq_none, gameStateSelector_isSome]
  simpa using h

/-- R96 lists `GET_LAST_UPDATE`'s selectors 0 and 1. -/
theorem lastUpdateSelector_isSome (s : State) (sel : BitVec 8) :
    (lastUpdateSelector s sel).isSome = decide (sel.toNat ≤ 1) := by
  unfold lastUpdateSelector
  split
  case h_3 => grind
  all_goals simp [*]

theorem lastUpdateSelector_none {s : State} {sel : BitVec 8} (h : 1 < sel.toNat) : lastUpdateSelector s sel = none := by
  rw [← Option.not_isSome_iff_eq_none, lastUpdateSelector_isSome]
  simpa using h

theorem exec_getGameState (sel : BitVec 8) (s : State) :
    exec (.getGameState sel) s =
      .next { s with
        cmdStatus := if sel.toNat ≤ 6 then .ok else .invalidArgument, cmdResult := (gameStateSelector s sel).getD 0 } := by
  have hexec : exec (.getGameState sel) s = .next (respondSelected (gameStateSelector s sel) s) := rfl
  simp only [hexec, respondSelected_eq_response, gameStateSelector_isSome, decide_eq_true_eq]

theorem exec_getLastUpdate (sel : BitVec 8) (s : State) :
    exec (.getLastUpdate sel) s =
      .next { s with
        cmdStatus := if sel.toNat ≤ 1 then .ok else .invalidArgument, cmdResult := (lastUpdateSelector s sel).getD 0 } := by
  have hexec : exec (.getLastUpdate sel) s = .next (respondSelected (lastUpdateSelector s sel) s) := rfl
  simp only [hexec, respondSelected_eq_response, lastUpdateSelector_isSome, decide_eq_true_eq]

/-- Settles O27, one clause per selector. -/
theorem selectorsReadTheListedValues : Obligations.SelectorsReadTheListedValues := by
  constructor
  · intro s sel
    refine ⟨_, exec_getGameState sel s, rfl, ?state, ?target, ?active, ?finished, ?timeLow, ?timeHigh, ?positions, ?reserved⟩
    case state => rintro rfl; show (gameStateCode s.gameState).zeroExtend 32 = _; cases s.gameState <;> rfl
    case target => rintro rfl; rfl
    case active => rintro rfl; exact BitVec.toNat_setWidth_of_le (by decide : 3 ≤ 32)
    case finished => rintro rfl; exact BitVec.toNat_setWidth_of_le (by decide : 3 ≤ 32)
    case timeLow => rintro rfl; exact lowHalf_toNat s.gameTime
    case timeHigh => rintro rfl; exact highHalf_toNat s.gameTime
    case positions => rintro rfl; exact ⟨packPositions_lt s.positions, packPositions_digit s.positions⟩
    case reserved => intro h; rw [gameStateSelector_none h]; rfl
  · intro s sel
    refine ⟨_, exec_getLastUpdate sel s, rfl, ?low, ?high, ?reserved⟩
    case low => rintro rfl; exact lowHalf_toNat s.lastUpdate
    case high => rintro rfl; exact highHalf_toNat s.lastUpdate
    case reserved => intro h; rw [lastUpdateSelector_none h]; rfl

end Sys2Proof.Machine
end

section
/-! The frame bits no rule reads (O53): each step of the decode path reads the frame through its accessors alone. -/

namespace Sys2Proof.Machine

variable {s : State} {f f' g g' : InFrame}

/-- A loop's turns may be exchanged for ones that agree wherever a condition holds that every turn keeps. -/
theorem forSlots_congr {a b : Slot → State → State} (P : State → Prop) (hs : P s) (hkeep : ∀ i u, P u → P (a i u))
    (heq : ∀ i u, P u → a i u = b i u) : forSlots a s = forSlots b s := by
  unfold forSlots
  induction allSlots generalizing s with
  | nil => rfl
  | cons i l ih => rw [List.foldl_cons, List.foldl_cons, ← heq i s hs]; exact ih (hkeep i s hs)

theorem connectivityStep_congr (h : ∀ i, connIn s.params f i = connIn s.params f' i) :
    connectivityStep f s = connectivityStep f' s :=
  forSlots_congr (fun u => u.params = s.params) rfl (fun i u hu => (connectivityOf_params u f i).trans hu)
    fun i u hu => by simp only [connectivityOf, hu, h i]

theorem driveStep_congr (hf : ∀ i, handsetIn f i = handsetIn f' i) (hg : ∀ i, handsetIn g i = handsetIn g' i) :
    driveStep f g s = driveStep f' g' s := by
  have hturn : driveOf f g = driveOf f' g' := by
    funext i u
    simp only [driveOf, hf i, hg i]
  simp only [driveStep, hturn]

theorem crossingStep_congr (hcar : carIn f = carIn f') (hf : lapTimer s.params f = lapTimer s.params f')
    (hg : lapTimer s.params g = lapTimer s.params g') : crossingStep f g s = crossingStep f' g' s := by
  simp only [crossingStep_eq, hcar, hf, hg]

theorem buttonStep_congr (hf : buttonsIn f = buttonsIn f') (hg : buttonsIn g = buttonsIn g') :
    buttonStep f g s = buttonStep f' g' s := by
  simp only [buttonStep, pressedIn, hf, hg]

/-- Settles O53, step by step of the decode path; in BINDING no step reads a frame. -/
theorem unreadFrameBitsHaveNoEffect : Obligations.UnreadFrameBitsHaveNoEffect := by
  intro s f f' g g' hslots hcar hf hg hbuttons hbuttons'
  have hcarIn : carIn f = carIn f' := by
    apply BitVec.eq_of_toNat_eq
    simpa [carIn] using hcar
  have hconn : connectivityStep f s = connectivityStep f' s := connectivityStep_congr fun i => (hslots i).1
  have hdrive (u : State) : driveStep f g u = driveStep f' g' u :=
    driveStep_congr (fun i => (hslots i).2.1) fun i => (hslots i).2.2
  have hparams : (driveStep f' g' (connectivityStep f' s)).params = s.params := by simp
  simp only [onFrame, hconn, hdrive, crossingStep_congr hcarIn (hparams ▸ hf) (hparams ▸ hg),
    buttonStep_congr hbuttons hbuttons']

end Sys2Proof.Machine
end

section
/-! Single-bit errors (O9), by the algebra R112 gives: the checksum step multiplies by `X` modulo the generator, and a
generator with a nonzero polynomial divides no power of `X`. -/

namespace Sys2Proof.Machine

/-! A flipped bit of a byte. -/

theorem getLsbD_bit (j : Fin 8) (i : Nat) : (1#8 <<< j.val).getLsbD i = decide (i = j.val) := by
  rw [← BitVec.twoPow_eq, BitVec.getLsbD_twoPow]
  simp [eq_comm]

theorem flip_ne (b : Byte) (j : Fin 8) : b ^^^ (1#8 <<< j.val) ≠ b := fun h => by
  have hbit := congrArg (BitVec.getLsbD · j.val) h
  simp only [BitVec.getLsbD_xor, getLsbD_bit] at hbit
  simp at hbit

/-- Reversing a byte moves the flipped bit `j` to bit `7 - j`. -/
theorem reverse8_flip (b : Byte) (j : Fin 8) :
    reverse8 (b ^^^ (1#8 <<< j.val)) = reverse8 b ^^^ (1#8 <<< j.rev.val) := by
  apply BitVec.eq_of_getLsbD_eq
  intro i hi
  have hmirror : 7 - i = j.val ↔ i = j.rev.val := by rw [Fin.val_rev]; omega
  simp only [reverse8, BitVec.getLsbD_xor, BitVec.getLsbD_reverse, BitVec.getMsbD, getLsbD_bit, hi, decide_true,
    Bool.true_and, Nat.add_one_sub_one, hmirror]

theorem reverse8_injective : Function.Injective reverse8 := fun a b h => by
  simpa [reverse8] using congrArg BitVec.reverse h

/-! Bytes as polynomials over GF(2). -/

/-- The polynomial over GF(2) a byte stands for, bit `i` the coefficient of `X ^ i`. -/
noncomputable def bytePoly (c : Byte) : Polynomial (ZMod 2) :=
  Polynomial.ofFn 8 fun i => if c.getLsbD i then 1 else 0

theorem bytePoly_coeff (c : Byte) (i : Nat) : (bytePoly c).coeff i = if c.getLsbD i then 1 else 0 := by
  by_cases hi : i < 8
  · exact Polynomial.ofFn_coeff_eq_val_of_lt _ hi
  · rw [BitVec.getLsbD_of_ge c i (by omega)]
    exact Polynomial.ofFn_coeff_eq_zero_of_ge _ (by omega)

theorem bytePoly_degree_lt (c : Byte) : (bytePoly c).degree < 8 := Polynomial.ofFn_degree_lt _

theorem eq_zero_of_bytePoly_eq_zero {c : Byte} (h : bytePoly c = 0) : c = 0 := by
  apply BitVec.eq_of_getLsbD_eq
  intro i _
  have hcoeff := bytePoly_coeff c i
  rw [h] at hcoeff
  simpa using hcoeff

theorem bytePoly_xor (a b : Byte) : bytePoly (a ^^^ b) = bytePoly a + bytePoly b := by
  ext i
  simp only [Polynomial.coeff_add, bytePoly_coeff, BitVec.getLsbD_xor]
  cases a.getLsbD i <;> cases b.getLsbD i <;> decide

theorem bytePoly_bit (j : Fin 8) : bytePoly (1#8 <<< j.val) = .X ^ j.val := by
  ext i
  simp only [bytePoly_coeff, getLsbD_bit, Polynomial.coeff_X_pow, decide_eq_true_eq]

/-- A shift to the left drops bit 7, the coefficient of `X ^ 8` in the product with `X`. -/
theorem X_mul_bytePoly (c : Byte) :
    .X * bytePoly c = bytePoly (c <<< 1) + if c.getLsbD 7 then .X ^ 8 else 0 := by
  ext i
  cases i with
  | zero => split <;> simp [bytePoly_coeff]
  | succ i =>
    rw [Polynomial.coeff_X_mul, Polynomial.coeff_add]
    simp only [bytePoly_coeff, BitVec.getLsbD_shiftLeft, apply_ite (Polynomial.coeff · (i + 1)), Polynomial.coeff_X_pow,
      Polynomial.coeff_zero]
    rcases lt_trichotomy i 7 with hi | rfl | hi
    · simp [hi.ne, show i + 1 < 8 by omega]
    · simp
    · simp [hi.ne', BitVec.getLsbD_of_ge c i (by omega), show ¬ i + 1 < 8 by omega]

/-! The generator. -/

variable (p : Params)

/-- The CRC's generator polynomial `x^8 + P(x)` (R112). -/
noncomputable def generator : Polynomial (ZMod 2) := .X ^ 8 + bytePoly p.crcPoly

theorem generator_monic : (generator p).Monic := Polynomial.monic_X_pow_add (bytePoly_degree_lt _)

theorem generator_natDegree : (generator p).natDegree = 8 := by
  apply Polynomial.natDegree_eq_of_degree_eq_some
  have hlt : (bytePoly p.crcPoly).degree < (Polynomial.X ^ 8 : Polynomial (ZMod 2)).degree := by
    rw [Polynomial.degree_X_pow]
    exact bytePoly_degree_lt _
  exact (Polynomial.degree_add_eq_left_of_degree_lt hlt).trans (Polynomial.degree_X_pow 8)

/-- `X` is prime, so a monic divisor of one of its powers is itself a power of `X`: here `X ^ 8`. -/
theorem crcPoly_eq_zero_of_generator_dvd {n : Nat} (h : generator p ∣ .X ^ n) : p.crcPoly = 0 := by
  obtain ⟨k, -, hassoc⟩ := (dvd_prime_pow Polynomial.prime_X n).1 h
  have hpow : generator p = .X ^ k :=
    Polynomial.eq_of_monic_of_associated (generator_monic p) (Polynomial.monic_X_pow k) hassoc
  have hk : k = 8 := by rw [← generator_natDegree p, hpow, Polynomial.natDegree_X_pow]
  rw [hk, generator, add_eq_left] at hpow
  exact eq_zero_of_bytePoly_eq_zero hpow

/-- One shift of the checksum (R110) is multiplication by `X` modulo the generator. -/
theorem X_mul_bytePoly_eq_crcShift (c : Byte) :
    .X * bytePoly c = bytePoly (crcShift p c) + if c.getLsbD 7 then generator p else 0 := by
  rw [X_mul_bytePoly, crcShift]
  split
  · rw [bytePoly_xor, generator, add_left_comm, CharTwo.add_cancel_right, add_comm]
  · rfl

theorem generator_dvd_crcShift (c : Byte) : generator p ∣ .X * bytePoly c - bytePoly (crcShift p c) := by
  rw [X_mul_bytePoly_eq_crcShift p c, add_sub_cancel_left]
  split
  · exact dvd_rfl
  · exact dvd_zero _

/-! Running checksums that differ by a monomial. -/

/-- Two running checksums that differ by the residue of a monomial modulo the generator: what a single flipped bit leaves
between them, however many bytes follow. -/
def MonomialApart (c c' : Byte) : Prop := ∃ n : Nat, generator p ∣ bytePoly c - bytePoly c' - .X ^ n

variable {p} {c c' : Byte}

theorem MonomialApart.ne (hp : p.crcPoly ≠ 0) (h : MonomialApart p c c') : c ≠ c' := by
  rintro rfl
  obtain ⟨n, hn⟩ := h
  rw [sub_self, zero_sub, dvd_neg] at hn
  exact hp (crcPoly_eq_zero_of_generator_dvd p hn)

theorem monomialApart_flip (c : Byte) (j : Fin 8) : MonomialApart p (c ^^^ (1#8 <<< j.val)) c :=
  ⟨j.val, by rw [bytePoly_xor, bytePoly_bit, add_sub_cancel_left, sub_self]; exact dvd_zero _⟩

theorem MonomialApart.xor_right (h : MonomialApart p c c') (b : Byte) : MonomialApart p (c ^^^ b) (c' ^^^ b) := by
  obtain ⟨n, hn⟩ := h
  exact ⟨n, by rwa [bytePoly_xor, bytePoly_xor, add_sub_add_right_eq_sub]⟩

theorem MonomialApart.shift (h : MonomialApart p c c') : MonomialApart p (crcShift p c) (crcShift p c') := by
  obtain ⟨n, hn⟩ := h
  have hshift := dvd_sub (generator_dvd_crcShift p c') (generator_dvd_crcShift p c)
  refine ⟨n + 1, ?_⟩
  convert dvd_add (dvd_mul_of_dvd_right hn .X) hshift using 1
  ring

theorem MonomialApart.iterate_shift (h : MonomialApart p c c') (n : Nat) :
    MonomialApart p ((crcShift p)^[n] c) ((crcShift p)^[n] c') := by
  induction n with
  | zero => exact h
  | succ n ih => simpa only [Function.iterate_succ_apply'] using ih.shift

theorem MonomialApart.update (h : MonomialApart p c c') (b : Byte) :
    MonomialApart p (crc8Update p c b) (crc8Update p c' b) := (h.xor_right _).iterate_shift 8

theorem MonomialApart.foldl_update (h : MonomialApart p c c') (bytes : List Byte) :
    MonomialApart p (bytes.foldl (crc8Update p) c) (bytes.foldl (crc8Update p) c') := by
  induction bytes generalizing c c' with
  | nil => exact h
  | cons b bytes ih => exact ih (h.update b)

/-! The checksum of a byte sequence with one bit flipped. -/

theorem monomialApart_update_flip (c b : Byte) (j : Fin 8) :
    MonomialApart p (crc8Update p c (b ^^^ (1#8 <<< j.val))) (crc8Update p c b) := by
  apply MonomialApart.iterate_shift
  split
  · rw [reverse8_flip, ← BitVec.xor_assoc]
    exact monomialApart_flip _ _
  · rw [← BitVec.xor_assoc]
    exact monomialApart_flip _ _

theorem monomialApart_foldl_flip (bytes : List Byte) (k : Nat) (hk : k < bytes.length) (j : Fin 8) (c : Byte) :
    MonomialApart p ((bytes.set k (bytes[k] ^^^ (1#8 <<< j.val))).foldl (crc8Update p) c)
      (bytes.foldl (crc8Update p) c) := by
  induction bytes generalizing k c with
  | nil => exact absurd hk (Nat.not_lt_zero k)
  | cons b bytes ih =>
    cases k with
    | zero => exact (monomialApart_update_flip c b j).foldl_update bytes
    | succ k => exact ih k (Nat.lt_of_succ_lt_succ hk) (crc8Update p c b)

/-- The last reflection and the final XOR of R111 are injective, so the running checksums decide. -/
theorem crc8_flip_ne (hp : p.crcPoly ≠ 0) (bytes : List Byte) (k : Nat) (hk : k < bytes.length) (j : Fin 8) :
    crc8 p (bytes.set k (bytes[k] ^^^ (1#8 <<< j.val))) ≠ crc8 p bytes := by
  have hsum := (monomialApart_foldl_flip bytes k hk j p.crcInit).ne hp
  unfold crc8
  split <;> simpa [reverse8_injective.eq_iff] using hsum

theorem frameOk_iff {f : InFrame} : frameOk p f = true ↔ crc8 p (f.toList.take 14) = f[14] := beq_iff_eq

/-- Settles O9: a flip in the body changes the computed checksum alone, a flip in byte 14 the received one alone. -/
theorem singleBitErrorIsDetected : Obligations.SingleBitErrorIsDetected := by
  intro p f k j hp hok
  have hsum := frameOk_iff.1 hok
  rw [Bool.eq_false_iff, Ne, frameOk_iff, Vector.toList_set]
  rcases Nat.lt_or_ge k.val 14 with hk | hk
  · have hlast : (f.set k (f[k] ^^^ (1#8 <<< j.val)))[14] = f[14] := Vector.getElem_set_ne _ _ (by omega)
    have hlen : k.val < (f.toList.take 14).length := by simpa using hk
    rw [hlast, ← hsum, List.take_set]
    simpa using crc8_flip_ne hp (f.toList.take 14) k hlen j
  · obtain rfl : k = 14 := by omega
    rw [List.take_set_of_le (by simp), hsum]
    simpa using (flip_ne f[14] j).symm

end Sys2Proof.Machine
end

section
/-! The round trip per direction (O10) and the lap-timer conversion (O11). -/

namespace Sys2Proof.Machine

variable {p : Params}

/-! An inbound frame made of a body and its checksum. -/

/-- A body followed by its checksum is accepted (R114, R117). -/
theorem frameOk_push (x : Vector Byte 14) : frameOk p (x.push (crc8 p x.toList)) = true := by
  have hbody : (x.push (crc8 p x.toList)).toList.take 14 = x.toList := by
    rw [Vector.toList_push, List.take_left' Vector.length_toList]
  rw [frameOk_iff, hbody]
  exact Vector.getElem_push_eq.symm

theorem handsetIn_push (x : Vector Byte 14) (b : Byte) (i : Slot) : handsetIn (x.push b) i = x[1 + i.val] :=
  Vector.getElem_push_lt _

/-! The fields, bit by bit and as numbers. -/

theorem powerIn_bit (h : Byte) (j : Fin 6) : (powerIn h).getLsbD j.val = !h.getLsbD j.val := by
  have hj := j.isLt
  simp [powerIn, show j.val < 8 by omega]

theorem toNat_append {m n : Nat} (a : BitVec m) (b : BitVec n) : (a ++ b).toNat = a.toNat * 2 ^ n + b.toNat := by
  rw [BitVec.toNat_append, ← Nat.shiftLeft_add_eq_or_of_lt b.isLt, Nat.shiftLeft_eq]

/-- The big-endian lap timer as a number (R61, R85). -/
theorem lapTimer_toNat {f : InFrame} (hbe : p.lapTimerBE = true) :
    (lapTimer p f).toNat = f[9].toNat * 2 ^ 24 + f[10].toNat * 2 ^ 16 + f[11].toNat * 2 ^ 8 + f[12].toNat := by
  rw [lapTimer, if_pos hbe]
  simp only [toNat_append]
  omega

/-- Settles O10: the outbound bytes stand where R88 puts them; every inbound accessor reads the body's own byte. -/
theorem codecRoundTripsPerDirection : Obligations.CodecRoundTripsPerDirection := by
  constructor
  · intro p op led d
    obtain ⟨hop, hsum⟩ := encodeOut_frame p op led d
    refine ⟨hop, fun i => ?_, rfl, hsum⟩
    match i with
    | 0 | 1 | 2 | 3 | 4 | 5 => rfl
  · intro p x f
    have hok : frameOk p f = true := frameOk_push x
    refine ⟨hok, _, if_pos hok, ?conn, ?trackPower, ?handset, ?auxCurrent, ?car, ?lapTimer, ?pressed⟩
    case conn => intro i; simp [connIn, readBit, f]
    case trackPower => simp [trackPowerIn, readBit, f]
    case handset =>
      intro i
      simp only [Fin.getElem_fin, Vector.getElem_ofFn, f, handsetIn_push]
      exact ⟨rfl, rfl, powerIn_bit _⟩
    case auxCurrent => simp [auxCurrentIn, f]
    case car => simp [carIn, f]
    case lapTimer => intro hbe; simp [lapTimer_toNat hbe, f]
    case pressed => intro b; simp [pressedIn, buttonsIn, readBit, f]

/-! The lap-timer conversion (R116). -/

theorem ticksToUs_toNat {n : BitVec 32} (hfits : n.toNat * p.tickUsNum.toNat < 2 ^ 64) :
    (ticksToUs p n).toNat = n.toNat * p.tickUsNum.toNat / p.tickUsDen.toNat := by
  have hn : (n.zeroExtend 64).toNat = n.toNat := BitVec.toNat_setWidth_of_le (by decide)
  rw [ticksToUs, BitVec.toNat_udiv, BitVec.toNat_mul, hn, Nat.mod_eq_of_lt hfits]

/-- Settles O11: with 32 the product of a 32-bit count fits, for it needs 37 bits. -/
theorem ticksConvertExactlyTruncating : Obligations.TicksConvertExactlyTruncating := by
  refine ⟨fun p n => ticksToUs_toNat, fun p n hnum hden => ?_, by decide, by decide, by decide, by decide, by decide⟩
  have hfits : n.toNat * p.tickUsNum.toNat < 2 ^ 64 := by
    rw [hnum, show (32 : Time).toNat = 32 from rfl]
    omega
  rw [ticksToUs_toNat hfits, hnum, hden]
  rfl

end Sys2Proof.Machine
end

section
/-! Entering WRITE: the frame, and what each LED cycle leaves (O14, O15, O16). -/

namespace Sys2Proof.Machine

variable {s : State}

/-! Which LED cycle `enter_write` runs (R147). -/

theorem ledCycle_of_idle (h : s.ledPhase = .idle) : ledCycle s = s := by simp only [ledCycle, h]

theorem ledCycle_of_cycle1 (h : s.ledPhase = .cycle1) : ledCycle s = ledCycle1 s := by simp only [ledCycle, h]

theorem ledCycle_of_cycle2 (h : s.ledPhase = .cycle2) : ledCycle s = ledCycle2 s := by simp only [ledCycle, h]

theorem enterWrite_of_idle (h : s.ledPhase = .idle) :
    enterWrite s =
      { s with txBuf := encodeOut s.params s.opMode s.drive s.ledStatus, txIdx := 0, linkState := .write } := by
  rw [enterWrite_eq, ledCycle_of_idle h]

/-- Settles O14: the frame is the one encoded from the fields, whose bytes O10 places. -/
theorem enterWriteEncodesTheCurrentFields : Obligations.EnterWriteEncodesTheCurrentFields := by
  intro s hidle
  obtain ⟨hframe, -⟩ := codecRoundTripsPerDirection
  exact ⟨_, enterWrite_of_idle hidle, hframe s.params s.opMode s.ledStatus s.drive⟩

/-! LED cycle 1 (R148). -/

/-- Green and red are lit, every other LED bit is as it was. -/
theorem ledCycle1_bit (s : State) (b : Fin 8) :
    (ledCycle1 s).ledStatus.getLsbD b.val =
      if b = s.params.ledGreenBit ∨ b = s.params.ledRedBit then !s.params.ledActiveLow
      else s.ledStatus.getLsbD b.val := by
  calc (ledCycle1 s).ledStatus.getLsbD b.val
    _ = (writeLed s.params.ledRedBit true (writeLed s.params.ledGreenBit true s)).ledStatus.getLsbD b.val := rfl
    _ = _ := by
      rw [writeLed_bit, writeLed_bit, writeLed_params, Bool.true_xor]
      by_cases hred : b = s.params.ledRedBit <;> simp [hred]

/-- Cycle 1 writes the LED byte and the phase alone. -/
theorem ledCycle1_frame (s : State) :
    ledCycle1 s = { s with ledStatus := (ledCycle1 s).ledStatus, ledPhase := .cycle2 } := rfl

/-- Settles O15: with cycle 1 pending `enter_write` is cycle 1, then the frame of the byte it left. -/
theorem ledCycleOneLightsGreenAndRed : Obligations.LedCycleOneLightsGreenAndRed := by
  intro s _ hphase t
  have hled : t.ledStatus = (ledCycle1 s).ledStatus := by
    rw [enterWrite_ledStatus, ledCycle_of_cycle1 hphase]
  refine ⟨fun b => hled ▸ ledCycle1_bit s b, enterWrite_txBuf s, ?_⟩
  calc t = { ledCycle1 s with txBuf := t.txBuf, txIdx := 0, linkState := .write } := by
        simp only [t, enterWrite, ledCycle_of_cycle1 hphase]
    _ = _ := by rw [hled, ledCycle1_frame]

/-! LED cycle 2 (R149). -/

/-- One bit per LED: red and green differ (R91). -/
theorem Params.red_ne_green_of_wf {p : Params} (h : p.wf = true) : p.ledRedBit ≠ p.ledGreenBit := by
  simp only [Params.wf, Params.ledBits, Bool.and_eq_true, decide_eq_true_eq, List.nodup_cons, List.mem_cons, not_or] at h
  tauto

/-- Red is unlit and green lit, every other LED bit is as it was. -/
theorem cycle2Leds_bit (h : s.params.ledRedBit ≠ s.params.ledGreenBit) (b : Fin 8) :
    (cycle2Leds s).ledStatus.getLsbD b.val =
      if b = s.params.ledRedBit then s.params.ledActiveLow
      else if b = s.params.ledGreenBit then !s.params.ledActiveLow else s.ledStatus.getLsbD b.val := by
  calc (cycle2Leds s).ledStatus.getLsbD b.val
    _ = (writeLed s.params.ledGreenBit true (writeLed s.params.ledRedBit false s)).ledStatus.getLsbD b.val := rfl
    _ = _ := by
      rw [writeLed_bit, writeLed_bit, writeLed_params, Bool.true_xor, Bool.false_xor]
      by_cases hred : b = s.params.ledRedBit <;> simp [hred, h]

/-- `enqueue` writes the queue and the fault bits alone (R228). -/
theorem enqueue_frame (e : Event) (s : State) :
    enqueue e s = { s with eventQ := (enqueue e s).eventQ, fault := (enqueue e s).fault } := by
  unfold enqueue
  split <;> rfl

/-- The promotion of STARTING is beside the LED byte: cycle 2 leaves the byte of `cycle2Leds` in every state. -/
theorem ledCycle2_ledStatus (s : State) : (ledCycle2 s).ledStatus = (cycle2Leds s).ledStatus := by
  by_cases h : s.gameState = .starting
  · rw [ledCycle2_starting s h, changed, enqueue_ledStatus]
  · rw [ledCycle2_other s h]

theorem ledCycle2_gameState (s : State) :
    (ledCycle2 s).gameState = if s.gameState = .starting then .race else s.gameState := by
  by_cases h : s.gameState = .starting
  · rw [ledCycle2_starting s h, changed_gameState, if_pos h]
  · rw [ledCycle2_other s h, cycle2Leds_gameState, if_neg h]

/-- Cycle 2 raises the change to RACE where it promotes STARTING (R149, R170). -/
theorem raises_ledCycle2 (s : State) :
    Raises s (ledCycle2 s) (if s.gameState = .starting then [.stateChange .race] else []) := by
  by_cases h : s.gameState = .starting
  · rw [ledCycle2_starting s h, if_pos h]
    exact (raises_changed (cycle2Leds s) .race).congr rfl rfl rfl rfl rfl
  · rw [ledCycle2_other s h, if_neg h]
    exact (Raises.refl s).congr rfl rfl rfl rfl rfl

/-- What cycle 2 writes: the LED byte, the phase, the update deadline and what the promotion writes. -/
theorem ledCycle2_frame (s : State) :
    ledCycle2 s =
      { s with
        ledStatus := (cycle2Leds s).ledStatus, ledPhase := .idle, nextUpdate := 0, gameState := (ledCycle2 s).gameState
        eventQ := (ledCycle2 s).eventQ, fault := (ledCycle2 s).fault } := by
  by_cases h : s.gameState = .starting
  · rw [ledCycle2_starting s h, changed, enqueue_frame]
    rfl
  · rw [ledCycle2_other s h]
    rfl

/-- Settles O16: with cycle 2 pending `enter_write` is cycle 2, then the frame of the byte it left. -/
theorem ledCycleTwoPromotesStartingToRace : Obligations.LedCycleTwoPromotesStartingToRace := by
  intro s hwf hphase t
  have hcycle : ledCycle s = ledCycle2 s := ledCycle_of_cycle2 hphase
  have hled : t.ledStatus = (cycle2Leds s).ledStatus := by
    rw [enterWrite_ledStatus, hcycle, ledCycle2_ledStatus]
  have ht : t = { ledCycle2 s with txBuf := t.txBuf, txIdx := 0, linkState := .write } := by
    simp only [t, enterWrite, hcycle]
  refine ⟨?bits, ?state, ?raised, enterWrite_txBuf s, ?frame⟩
  case bits => exact fun b => hled ▸ cycle2Leds_bit (Params.red_ne_green_of_wf hwf) b
  case state => rw [enterWrite_gameState, hcycle, ledCycle2_gameState]
  case raised =>
    rw [ht]
    exact (raises_ledCycle2 s).congr rfl rfl rfl rfl rfl
  case frame =>
    have hgame : t.gameState = (ledCycle2 s).gameState := by rw [ht]
    have hqueue : t.eventQ = (ledCycle2 s).eventQ := by rw [ht]
    have hfault : t.fault = (ledCycle2 s).fault := by rw [ht]
    rw [hled, hgame, hqueue, hfault]
    calc t = _ := ht
      _ = _ := by rw [ledCycle2_frame]

end Sys2Proof.Machine
end

section
/-! Receiving: a byte before the fifteenth, and the fifteenth of a corrupt and of a good frame (O31 to O34). -/

namespace Sys2Proof.Machine

variable {s t u : State}

/-! `RX_BYTE` (R141, R142). -/

theorem exec_rxByte_of_read {b : Byte} (h : s.linkState = .read) : exec (.rxByte b) s = .next (receiveByte b s) :=
  congrArg Host.Outcome.next (if_pos h)

theorem exec_rxByte_of_not_read {b : Byte} (h : s.linkState ≠ .read) : exec (.rxByte b) s = .next s :=
  congrArg Host.Outcome.next (if_neg h)

/-- A cursor within the frame: the byte is written there and the cursor advances (R141). -/
theorem storeRx_eq {b : Byte} {k : Nat} (hk : k < 15) (h : s.rxCount.toNat = k) :
    storeRx b s = { s with rxBuf := s.rxBuf.set k b, rxCount := BitVec.ofNat 4 (k + 1) } := by
  have hbuf : s.rxBuf.setIfInBounds k b = s.rxBuf.set k b :=
    Vector.ext fun i hi => by simp only [Vector.getElem_setIfInBounds, Vector.getElem_set]
  have hcount : s.rxCount + 1 = BitVec.ofNat 4 (k + 1) := by bv_omega
  rw [storeRx, h, hbuf, hcount]

/-- Before the fifteenth byte nothing but the store happens (R141). -/
theorem receiveByte_of_lt {b : Byte} (h : s.rxCount.toNat < 14) : receiveByte b s = storeRx b s := by
  have hnotLast : (storeRx b s).rxCount ≠ 15 := by
    rw [storeRx_rxCount]
    bv_omega
  exact if_neg hnotLast

/-- The fifteenth byte is stored and the frame completed (R141). -/
theorem receiveByte_of_last {b : Byte} (h : s.rxCount = 14) :
    receiveByte b s = completeFrame { s with rxBuf := s.rxBuf.set 14 b, rxCount := 15 } := by
  have hstore : storeRx b s = { s with rxBuf := s.rxBuf.set 14 b, rxCount := 15 } := storeRx_eq (by decide) (by simp [h])
  have hlast : (storeRx b s).rxCount = 15 := by rw [hstore]
  rw [← hstore]
  exact if_pos hlast

/-- Settles O31: in READ the byte goes through `storeRx`, elsewhere it is dropped. -/
theorem receivedByteIsStoredOrDropped : Obligations.ReceivedByteIsStoredOrDropped := by
  refine ⟨fun s b k hread hcount => ?_, fun s b => exec_rxByte_of_not_read⟩
  rw [exec_rxByte_of_read hread, receiveByte_of_lt (by omega), storeRx_eq (by omega) hcount]

/-! A corrupt frame (R146). -/

theorem completeFrame_of_corrupt (h : frameOk s.params s.rxBuf = false) :
    completeFrame s = enterWrite { s with rxCount := 0 } := by
  simp only [completeFrame, h, Bool.false_eq_true, if_false]

/-- Settles O32: a corrupt frame leaves `enter_write` alone to run, which keeps the fields listed. -/
theorem corruptFrameMovesTheCycleOnly : Obligations.CorruptFrameMovesTheCycleOnly := by
  intro s b hread hlast hcorrupt
  let u : State := { s with rxBuf := s.rxBuf.set 14 b, rxCount := 0 }
  have hrun : exec (.rxByte b) s = .next (enterWrite u) := by
    rw [exec_rxByte_of_read hread, receiveByte_of_last hlast, completeFrame_of_corrupt hcorrupt]
  exact ⟨_, hrun, rfl, enterWrite_lastUpdate u, enterWrite_prevFrame u, enterWrite_cars u, enterWrite_positions u,
    enterWrite_conn u, enterWrite_drive u, enterWrite_gameTime u, enterWrite_linkConnected u, enterWrite_diagLog u,
    fun hidle => enterWrite_of_idle (s := u) hidle⟩

/-! The connect check (R145). -/

theorem connectCheck_of_connected (h : s.linkConnected = true) : connectCheck s = s := if_pos h

theorem connectCheck_of_not_connected (h : s.linkConnected = false) :
    connectCheck s = requestLedReset (resetRaceData (log .connected { s with linkConnected := true })) := by
  simp only [connectCheck, h, Bool.false_eq_true, if_false]

@[simp] theorem connectCheck_linkConnected (s : State) : (connectCheck s).linkConnected = true := by
  cases h : s.linkConnected with
  | true => rw [connectCheck_of_connected h, h]
  | false => rw [connectCheck_of_not_connected h]; rfl

@[simp] theorem connectCheck_diagLog (s : State) :
    (connectCheck s).diagLog = if s.linkConnected then s.diagLog else s.diagLog ++ [.connected] := by
  cases h : s.linkConnected with
  | true => rw [connectCheck_of_connected h]; rfl
  | false => rw [connectCheck_of_not_connected h]; rfl

/-- Settles O34: connected, nothing; not connected, the log entry, the race-data reset and the LED request. -/
theorem connectCheckActsOnceAfterAReconnect : Obligations.ConnectCheckActsOnceAfterAReconnect := by
  intro s t
  refine ⟨connectCheck_of_connected, fun h => ?_⟩
  have ht : t = requestLedReset (resetRaceData (log .connected { s with linkConnected := true })) :=
    connectCheck_of_not_connected h
  rw [ht]
  exact ⟨raceDataReset_resetRaceData { s with linkConnected := true }, rfl⟩

/-! The selections of the host and the illegal-event bit, which the decode path leaves alone. -/

/-- `t` has the fault bit of reserved events, the selected cars and the power rates of `s`. A field a proof leaves out is
unchanged. -/
structure SameSelections (s t : State) : Prop where
  illegalEvent : t.fault.illegalEvent = s.fault.illegalEvent := by simp
  cars : ∀ i : Slot, t.cars[i].active = s.cars[i].active ∧ t.cars[i].powerRate = s.cars[i].powerRate := by simp

namespace SameSelections

theorem refl (s : State) : SameSelections s s := {}

theorem trans (h : SameSelections s t) (k : SameSelections t u) : SameSelections s u where
  illegalEvent := k.illegalEvent.trans h.illegalEvent
  cars i := ⟨(k.cars i).1.trans (h.cars i).1, (k.cars i).2.trans (h.cars i).2⟩

end SameSelections

variable (s)

@[simp] theorem enqueue_illegalEvent (e : Event) : (enqueue e s).fault.illegalEvent = s.fault.illegalEvent :=
  (raises_enqueue s e).2

theorem sameSelections_enqueue (e : Event) : SameSelections s (enqueue e s) := {}

theorem sameSelections_updateCar (k : Slot) {g : CarState → CarState}
    (hg : ∀ c, (g c).active = c.active ∧ (g c).powerRate = c.powerRate) : SameSelections s (updateCar k g s) where
  cars i :=
    ⟨updateCar_keeps (·.active) (fun c => (hg c).1) s k i, updateCar_keeps (·.powerRate) (fun c => (hg c).2) s k i⟩

/-- The entry effects clear laps, best lap and finished flag alone of a car (R170, R173). -/
theorem sameSelections_setState (g : GameState) : SameSelections s (setState g s) where
  cars i := by
    unfold setState
    split
    · exact ⟨rfl, rfl⟩
    · cases g <;> simp [entryResetsRaceData]

theorem sameSelections_ledCycle : SameSelections s (ledCycle s) where
  illegalEvent := by
    unfold ledCycle
    split
    · rfl
    · rfl
    · exact (raises_ledCycle2 s).2

theorem sameSelections_enterWrite : SameSelections s (enterWrite s) := (sameSelections_ledCycle s).trans {}

theorem sameSelections_connectCheck : SameSelections s (connectCheck s) := by
  unfold connectCheck
  split <;> exact {}

theorem sameSelections_bindingStep : SameSelections s (bindingStep s) := by
  unfold bindingStep
  split
  · exact {}
  · exact (sameSelections_setState s .training).trans {}

theorem sameSelections_connectivityOf (f : InFrame) (i : Slot) : SameSelections s (connectivityOf f i s) where
  illegalEvent := by
    unfold connectivityOf
    dsimp only
    split <;> simp

/-- What `RaceInv` reads of a car takes in its selection and its rate. -/
theorem sameSelections_recordCrossing (k : Slot) (now : Time) : SameSelections s (recordCrossing k now s) where
  illegalEvent := by
    unfold recordCrossing
    dsimp only
    split
    · rw [enqueue_illegalEvent]
      split <;> rfl
    · rfl
  cars i :=
    have hsame : SameRace s (recordCrossing k now s) := sameRace_recordCrossing k now
    ⟨hsame.active i, hsame.powerRate i⟩

theorem sameSelections_countLap (k : Slot) : SameSelections s (countLap k s) where
  cars := by
    unfold countLap
    split
    · dsimp only
      split <;> exact (sameSelections_updateCar s k (g := fun c => { c with finished := true }) fun _ => ⟨rfl, rfl⟩).cars
    · exact (sameSelections_updateCar s k (g := fun c => { c with laps := c.laps + 1 }) fun _ => ⟨rfl, rfl⟩).cars

theorem sameSelections_crossing (k : Slot) (now : Time) : SameSelections s (crossing k now s) := by
  unfold crossing
  split
  · rw [lapBookkeeping_eq]
    exact (sameSelections_recordCrossing s k now).trans (sameSelections_countLap _ k)
  · split
    · exact (sameSelections_enqueue s (.falseStart k)).trans (sameSelections_setState _ .stopped)
    · exact .refl s

theorem sameSelections_updateCheck (now : Time) : SameSelections s (updateCheck now s) := by
  unfold updateCheck
  split
  · have hrank : SameSelections s (rank s) := {}
    exact hrank.trans (.trans (sameSelections_enqueue (rank s) (.gameUpdate s.gameTime (report (rank s)))) {})
  · exact .refl s

theorem sameSelections_setGameTime (now : Time) : SameSelections s (setGameTime now s) := by
  unfold setGameTime
  split <;> exact {}

theorem sameSelections_crossingStep (f g : InFrame) : SameSelections s (crossingStep f g s) := by
  rw [crossingStep_eq]
  split
  · exact .refl s
  · have htime := sameSelections_setGameTime s (ticksToUs s.params (lapTimer s.params f))
    refine (htime.trans ?_).trans (sameSelections_updateCheck _ _)
    cases crossingSlot (carIn f) with
    | none => exact .refl _
    | some k => exact sameSelections_crossing _ k _

theorem sameSelections_buttonStep (f g : InFrame) : SameSelections s (buttonStep f g s) := by
  unfold buttonStep
  split
  · exact .refl s
  · split
    · exact sameSelections_enqueue s _
    · exact .refl s

theorem sameSelections_onFrame (f g : InFrame) : SameSelections s (onFrame f g s) := by
  unfold onFrame
  split
  · exact sameSelections_bindingStep s
  · have hconn : SameSelections s (connectivityStep f s) :=
      forSlots_induction s (SameSelections s) _ (fun i u hu => hu.trans (sameSelections_connectivityOf u f i)) (.refl s)
    have hdrive : SameSelections (connectivityStep f s) (driveStep f g (connectivityStep f s)) := {}
    exact hconn.trans
      (hdrive.trans ((sameSelections_crossingStep _ f g).trans (sameSelections_buttonStep _ f g)))

variable {s}

/-! A good frame (R143, R144). -/

theorem completeFrame_of_good (h : frameOk s.params s.rxBuf = true) :
    completeFrame s =
      enterWrite
        { onFrame s.rxBuf s.prevFrame (connectCheck { s with lastUpdate := s.clock }) with
          prevFrame := s.rxBuf, rxCount := 0 } := by
  simp only [completeFrame, h, if_true, acceptFrame_eq]

/-- Settles O33: the decode path and `enter_write` keep what the connect check and the stored frame left, field by field. -/
theorem goodFrameIsAcceptedWhole : Obligations.GoodFrameIsAcceptedWhole := by
  intro s b hread hlast hgood
  let v : State := { s with rxBuf := s.rxBuf.set 14 b, rxCount := 15, lastUpdate := s.clock }
  let u : State := onFrame (s.rxBuf.set 14 b) s.prevFrame (connectCheck v)
  let w : State := { u with prevFrame := s.rxBuf.set 14 b, rxCount := 0 }
  let t : State := enterWrite w
  have hrun : exec (.rxByte b) s = .next t := by
    rw [exec_rxByte_of_read hread, receiveByte_of_last hlast, completeFrame_of_good hgood]
  have hsel : SameSelections s t := by
    have hstored : SameSelections s v := ⟨rfl, fun _ => ⟨rfl, rfl⟩⟩
    have hframe : SameSelections (connectCheck v) u := sameSelections_onFrame _ _ _
    have hswap : SameSelections u w := ⟨rfl, fun _ => ⟨rfl, rfl⟩⟩
    exact hstored.trans
      ((sameSelections_connectCheck v).trans (hframe.trans (hswap.trans (sameSelections_enterWrite w))))
  have hconnected : t.linkConnected = true := by simp [t, w, u]
  have hlogged : t.diagLog = if s.linkConnected then s.diagLog else s.diagLog ++ [.connected] := by simp [t, w, u, v]
  have houtbound : t.txBuf = encodeOut s.params s.opMode t.drive t.ledStatus := by simp [t, w, u, v]
  refine ⟨t, hrun, ⟨u, rfl, rfl⟩, ?_, enterWrite_prevFrame w, hconnected, ?_, hlogged, rfl, enterWrite_rxCount w, rfl,
    houtbound, ?_, ?_, ?_, ?_, ?_, ?_, ?_, ?_, ?_, ?_, ?_, hsel.illegalEvent, hsel.cars⟩ <;> simp [t, w, u, v]

end Sys2Proof.Machine
end

section
/-! Transmitting and I/O errors (O35, O36, O38). -/

namespace Sys2Proof.Machine

variable {s : State}

/-! `TX_READY` (R151, R152). -/

theorem exec_txReady_of_write (h : s.linkState = .write) : exec .txReady s = .next (transmitByte s) :=
  congrArg Host.Outcome.next (if_pos h)

theorem exec_txReady_of_not_write (h : s.linkState ≠ .write) : exec .txReady s = .next s :=
  congrArg Host.Outcome.next (if_neg h)

/-- A byte before the ninth goes out and the cursor advances (R151). -/
theorem transmitByte_of_lt {k : Nat} (hk : k < 8) (h : s.txIdx.toNat = k) :
    transmitByte s = { s with txOut := s.txOut ++ [s.txBuf[k]], txIdx := BitVec.ofNat 4 (k + 1) } := by
  subst h
  have hnext : s.txIdx + 1 = BitVec.ofNat 4 (s.txIdx.toNat + 1) := by bv_omega
  have hnotLast : ¬ s.txIdx + 1 = 9 := by bv_omega
  rw [← hnext, transmitByte, dif_pos (by omega)]
  exact if_neg hnotLast

/-- The ninth byte goes out and completes the write (R151, R152). -/
theorem transmitByte_of_last (h : s.txIdx = 8) :
    transmitByte s =
      { s with txOut := s.txOut ++ [s.txBuf[8]], txIdx := 0, rxCount := 0, linkState := .read } := by
  have hidx : s.txIdx.toNat = 8 := by simp [h]
  have hlast : s.txIdx + 1 = 9 := by simp [h]
  rw [transmitByte, dif_pos (by omega)]
  simp only [hidx]
  exact if_pos hlast

theorem transmitByte_of_ge (h : 9 ≤ s.txIdx.toNat) : transmitByte s = s := dif_neg (by omega)

/-- Settles O35: outside WRITE nothing, in WRITE the three cases of the cursor. -/
theorem txReadyEmitsTheNextByte : Obligations.TxReadyEmitsTheNextByte := by
  refine fun s => ⟨fun k hwrite hidx => ?next, fun hwrite hidx => ?last, fun h => ?nothing⟩
  case next => rw [exec_txReady_of_write hwrite, transmitByte_of_lt k.isLt hidx]
  case last => rw [exec_txReady_of_write hwrite, transmitByte_of_last hidx]
  case nothing =>
    by_cases hwrite : s.linkState = .write
    · rw [exec_txReady_of_write hwrite, transmitByte_of_ge (h.resolve_left (not_not_intro hwrite))]
    · exact exec_txReady_of_not_write hwrite

/-! A run of `TX_READY` (O36). -/

/-- `TX_READY` as the environment presents it at the clock value `c` (R98, R99). -/
def txInput (c : Time) : Input := { t := c, word := .event 0x200 }

theorem decode_txReady : decode (.event 0x200) = .ok .txReady := by decide

theorem step_txInput {rest : List Input} (hwrite : s.linkState = .write) (hin : s.inputs = txInput s.clock :: rest) :
    step s = .next (transmitByte { s with inputs := rest }) := by
  calc step s = exec .txReady { s with inputs := rest } := by
        rw [step_of_inputs_cons hin]
        exact runWord_of_decode_ok decode_txReady _
    _ = .next (transmitByte { s with inputs := rest }) := exec_txReady_of_write hwrite

/-- In WRITE with `n + 1` bytes left, as many `TX_READY` send them in order and complete the write (R61, R151, R152). -/
theorem run_txInputs (n : Nat) : ∀ s : State, s.linkState = .write → s.txIdx.toNat + n = 8 →
    s.inputs = List.replicate (n + 1) (txInput s.clock) →
      core.run (n + 1) s =
        .next { s with inputs := [], txOut := s.txOut ++ s.txBuf.toList.drop s.txIdx.toNat, txIdx := 0, rxCount := 0,
                       linkState := .read } := by
  induction n with
  | zero =>
    intro s hwrite hidx hin
    have hcursor : s.txIdx.toNat = 8 := hidx
    have hlast : s.txIdx = 8 := BitVec.eq_of_toNat_eq hcursor
    have hrest : s.txBuf.toList.drop 8 = [s.txBuf[8]] := by
      rw [List.drop_eq_getElem_cons (by simp), List.drop_eq_nil_of_le (by simp)]
      simp
    have hstep : step s = .next
        { s with inputs := [], txOut := s.txOut ++ [s.txBuf[8]], txIdx := 0, rxCount := 0, linkState := .read } :=
      (step_txInput hwrite hin).trans
        (congrArg Host.Outcome.next (transmitByte_of_last (s := { s with inputs := [] }) hlast))
    rw [run_succ_of_step hstep, hcursor, hrest]
    rfl
  | succ n ih =>
    intro s hwrite hidx hin
    have hcursor : (BitVec.ofNat 4 (s.txIdx.toNat + 1)).toNat = s.txIdx.toNat + 1 := by
      rw [BitVec.toNat_ofNat]
      omega
    have hrest : s.txBuf.toList.drop s.txIdx.toNat =
        s.txBuf[s.txIdx.toNat] :: s.txBuf.toList.drop (s.txIdx.toNat + 1) := by
      rw [List.drop_eq_getElem_cons (by simp; omega)]
      simp
    have hmore : s.txIdx.toNat < 8 := by omega
    let rest : List Input := List.replicate (n + 1) (txInput s.clock)
    let u : State := { s with
      inputs := rest, txOut := s.txOut ++ [s.txBuf[s.txIdx.toNat]], txIdx := BitVec.ofNat 4 (s.txIdx.toNat + 1) }
    have hstep : step s = .next u :=
      (step_txInput hwrite hin).trans
        (congrArg Host.Outcome.next (transmitByte_of_lt (s := { s with inputs := rest }) hmore rfl))
    have hout : u.txOut ++ u.txBuf.toList.drop u.txIdx.toNat = s.txOut ++ s.txBuf.toList.drop s.txIdx.toNat := by
      simp only [u, hcursor, hrest, List.append_assoc, List.singleton_append]
    rw [run_succ_of_step hstep, ih u hwrite (by simp only [u, hcursor]; omega) rfl, hout]

/-- Settles O36: the nine `TX_READY` are a run from cursor 0. -/
theorem nineTxReadySendTheWholeFrame : Obligations.NineTxReadySendTheWholeFrame := by
  intro s hwrite hstart hin
  rw [run_txInputs 8 s hwrite (by simp [hstart]) hin]
  simp [hstart]

/-! `IO_ERROR` (R153). -/

/-- Settles O38: the meaning of `IO_ERROR` has one case, whatever the link state. -/
theorem ioErrorHaltsTheCycle : Obligations.IoErrorHaltsTheCycle := fun _ => rfl

end Sys2Proof.Machine
end

section
/-! The drive bytes and the transitions (O12, O13). -/

namespace Sys2Proof.Machine

variable {s : State}

/-! The asserted-high view of a byte stored as a complement (R90). -/

theorem drivePower_not (v : Byte) : drivePower (~~~v) = v.extractLsb' 0 6 := by simp [drivePower]

theorem driveBrake_not (v : Byte) : driveBrake (~~~v) = v.getLsbD 7 := by simp [driveBrake, readBit]

theorem driveLane_not (v : Byte) : driveLane (~~~v) = v.getLsbD 6 := by simp [driveLane, readBit]

theorem driveBrake_eq (d : Byte) : driveBrake d = (~~~d).getLsbD 7 := by simp [driveBrake, readBit]

theorem driveLane_eq (d : Byte) : driveLane d = (~~~d).getLsbD 6 := by simp [driveLane, readBit]

/-! `drive_modify` and `cut_power` (R174, R175). -/

theorem cutPower_frame (s : State) : cutPower s = { s with drive := (cutPower s).drive } := by
  rw [cutPower_eq]
  rfl

theorem cutPower_get (s : State) (i : Slot) : (cutPower s).drive[i] = ~~~(~~~s.drive[i] &&& 0x80#8) := by
  simp [cutPower_eq]

theorem powerCut_cutPower (s : State) : PowerCut s (cutPower s) := by
  intro i
  rw [cutPower_get, drivePower_not, driveLane_not, driveBrake_not, driveBrake_eq]
  refine ⟨?power, ?lane, ?brake⟩
  case power => simp [BitVec.extractLsb'_and]
  case lane => simp
  case brake => simp

/-- Settles O12: `drive_modify` sets one byte of the vector, `cut_power` masks each byte's complement with the brake bit. -/
theorem driveBytesAreUpdatedActiveLow : Obligations.DriveBytesAreUpdatedActiveLow := by
  refine ⟨fun s i g => ⟨?same, fun j hj => ?other, rfl⟩, fun s => ⟨powerCut_cutPower s, cutPower_frame s⟩⟩
  case same => rw [driveModify_get, if_pos rfl, BitVec.not_not]
  case other => rw [driveModify_get, if_neg hj]

/-! `set_state` (R170). -/

theorem changed_frame (g : GameState) (s : State) :
    changed g s = { s with gameState := g, eventQ := (changed g s).eventQ, fault := (changed g s).fault } := by
  rw [changed, enqueue_frame]

/-- All that a change of state writes (R170): the event, then the entry effects of the state entered. -/
theorem setState_eq {g : GameState} (h : s.gameState ≠ g) :
    setState g s =
      { s with
        gameState := g, eventQ := (changed g s).eventQ, fault := (changed g s).fault
        ledPhase := if g = .race then s.ledPhase else .cycle1
        cars := (if entryResetsRaceData g then resetRaceData s else s).cars
        finishedCarCount := (if entryResetsRaceData g then resetRaceData s else s).finishedCarCount
        positions := (if entryResetsRaceData g then resetRaceData s else s).positions
        drive := (if g = .stopped then cutPower s else s).drive } := by
  cases g with
  | race => rw [setState_race s h, changed_frame]; rfl
  | stopped => rw [setState_stopped s h, cutPower_eq, cutPower_eq, changed_frame]; rfl
  | countdown | starting | training | binding =>
    rw [setState_resetting s h (by decide) (by decide), changed_frame]; rfl

theorem raises_setState_of_ne {g : GameState} (h : s.gameState ≠ g) : Raises s (setState g s) [.stateChange g] := by
  have hraised := raises_setState s g
  rwa [changeTo, if_neg h] at hraised

/-- Settles O13: on a change `setState_eq` has every field; the records raised are those of `raises_setState`. -/
theorem setStateHasTheEntryEffects : Obligations.SetStateHasTheEntryEffects := by
  intro s g t
  refine ⟨setState_same s, fun h => ?_⟩
  have hreset : (g = .countdown ∨ g = .starting ∨ g = .training ∨ g = .binding) ↔ entryResetsRaceData g = true := by
    cases g <;> decide
  have ht : t = _ := setState_eq h
  simp only [hreset]
  refine ⟨setState_gameState s g, raises_setState_of_ne h, ?_⟩
  rw [ht]
  exact ⟨rfl, ⟨rfl, rfl, rfl⟩, rfl, rfl⟩

end Sys2Proof.Machine
end

section
/-! When a command is rejected (O6, O28, O29). -/

namespace Sys2Proof.Machine

variable {s : State}

/-! Valid operands (R95). -/

theorem carValid_iff {car : BitVec 4} : carValid car = true ↔ car.toNat < 6 := decide_eq_true_iff

/-- A car list is valid exactly as a number from 1 to 63: some id below 6, and neither 6 nor 7. -/
theorem maskValid_iff {mask : BitVec 8} : maskValid mask = true ↔ 0 < mask.toNat ∧ mask.toNat < 64 := by
  have hhigh : (mask.extractLsb' 6 2).toNat = mask.toNat / 64 := by
    rw [BitVec.extractLsb'_toNat, Nat.shiftRight_eq_div_pow]
    omega
  have hlow : (mask.extractLsb' 0 6).toNat = mask.toNat % 64 := BitVec.extractLsb'_toNat ..
  simp only [maskValid, Bool.and_eq_true, beq_iff_eq, bne_iff_ne, ← BitVec.toNat_inj, hhigh, hlow, BitVec.toNat_ofNat, ne_eq]
  omega

theorem pctValid_iff {p : Params} {pct : BitVec 8} :
    pctValid p pct = true ↔ p.rateMin.toNat ≤ pct.toNat ∧ pct.toNat ≤ p.rateMax.toNat := by
  simp only [pctValid, Bool.and_eq_true, decide_eq_true_eq]

theorem pwrValid_iff {p : Params} {pwr : BitVec 8} : pwrValid p pwr = true ↔ pwr.toNat ≤ p.powerMax.toNat :=
  decide_eq_true_iff

/-! Each command's run on valid operands and its rejection on others (R176 to R187, R190). -/

theorem withCar_of_valid {car : BitVec 4} (h : car.toNat < 6) (f : Slot → State) :
    withCar car s f = f ⟨car.toNat, h⟩ := by
  simp only [withCar, carOperand, dif_pos h]

theorem withCar_of_invalid {car : BitVec 4} (h : ¬ car.toNat < 6) (f : Slot → State) : withCar car s f = reject s := by
  simp only [withCar, carOperand, dif_neg h]

/-- A command of a slot with a second operand to check: both valid, it runs. -/
theorem withCar_of_valid_operand {car : BitVec 4} {ok : Bool} {f : Slot → State} (h : (carValid car && ok) = true) :
    withCar car s (fun i => if ok then f i else reject s) =
      f ⟨car.toNat, carValid_iff.1 (Bool.and_elim_left h)⟩ := by
  rw [withCar_of_valid, if_pos (Bool.and_elim_right h)]

/-- A command of a slot with a second operand to check: either invalid, it is rejected. -/
theorem withCar_of_invalid_operand {car : BitVec 4} {ok : Bool} {f : Slot → State} (h : (carValid car && ok) = false) :
    withCar car s (fun i => if ok then f i else reject s) = reject s := by
  by_cases hcar : car.toNat < 6
  · have hok : ok = false := by simpa [carValid, hcar] using h
    rw [withCar_of_valid hcar, if_neg (Bool.eq_false_iff.1 hok)]
  · rw [withCar_of_invalid hcar]

/-- `INIT` tests its car list as R95 does. -/
theorem exec_init (laps : BitVec 16) (mask : BitVec 8) (s : State) :
    exec (.init laps mask) s =
      .next (if maskValid mask then
        respond .ok 0 (setState .countdown { resetRaceData (activate mask s) with targetLaps := laps.zeroExtend 32 })
      else reject s) := by
  have htest : (mask.extractLsb' 6 2 ≠ 0 ∨ mask.extractLsb' 0 6 = 0) ↔ ¬ maskValid mask = true := by
    simp [maskValid, imp_iff_not_or]
  simp only [exec, execInit, htest, ite_not]

theorem exec_setPowerRate (car : BitVec 4) (pct : BitVec 8) (s : State) :
    exec (.setPowerRate car pct) s =
      .next (withCar car s fun i =>
        if pctValid s.params pct then respond .ok 0 (updateCar i (fun c => { c with powerRate := pct.setWidth 7 }) s)
        else reject s) := by
  have htest : (pct < s.params.rateMin ∨ pct > s.params.rateMax) ↔ ¬ pctValid s.params pct = true := by
    rw [pctValid_iff, gt_iff_lt, BitVec.lt_def, BitVec.lt_def]
    omega
  simp only [exec, execSetPowerRate, htest, ite_not]

theorem exec_setPower (car : BitVec 4) (pwr : BitVec 8) (s : State) :
    exec (.setPower car pwr) s =
      .next (withCar car s fun i => if pwrValid s.params pwr then respond .ok 0 (setPower i pwr s) else reject s) := by
  have htest : pwr > s.params.powerMax ↔ ¬ pwrValid s.params pwr = true := by
    rw [pwrValid_iff, gt_iff_lt, BitVec.lt_def]
    omega
  simp only [exec, execSetPower, htest, ite_not]

/-- A command whose operands are not valid writes the response alone (R190). -/
theorem exec_of_not_wellFormed {i : Instr} (hi : i.isCommand = true) (h : i.wellFormed s.params = false) :
    exec i s = .next (reject s) := by
  cases i with
  | init laps mask =>
    have hmask : maskValid mask = false := h
    rw [exec_init, if_neg (Bool.eq_false_iff.1 hmask)]
  | bind car | setBrake car v | setLaneChange car v =>
    exact congrArg Host.Outcome.next (withCar_of_invalid (of_decide_eq_false h) _)
  | setPowerRate car pct => rw [exec_setPowerRate, withCar_of_invalid_operand h]
  | setPower car pwr => rw [exec_setPower, withCar_of_invalid_operand h]
  | getGameState sel =>
    have hsel : ¬ sel.toNat ≤ 6 := of_decide_eq_false h
    rw [exec_getGameState, if_neg hsel, gameStateSelector_none (by omega)]
    rfl
  | getLastUpdate sel =>
    have hsel : ¬ sel.toNat ≤ 1 := of_decide_eq_false h
    rw [exec_getLastUpdate, if_neg hsel, lastUpdateSelector_none (by omega)]
    rfl
  | stop | start | train | ledReset => cases h
  | rxByte _ | txReady | ioError | watchdogTick | timerTick => cases hi

/-- A command whose operands are valid answers OK (R190). -/
theorem exec_of_wellFormed {i : Instr} (hi : i.isCommand = true) (h : i.wellFormed s.params = true) :
    ∃ t, exec i s = .next t ∧ t.cmdStatus = .ok := by
  cases i with
  | stop | start | train | ledReset => exact ⟨_, rfl, rfl⟩
  | init laps mask => exact ⟨_, (exec_init laps mask s).trans (congrArg _ (if_pos h)), rfl⟩
  | bind car | setBrake car v | setLaneChange car v =>
    exact ⟨_, congrArg Host.Outcome.next (withCar_of_valid (of_decide_eq_true h) _), rfl⟩
  | setPowerRate car pct =>
    exact ⟨_, (exec_setPowerRate car pct s).trans (congrArg _ (withCar_of_valid_operand h)), rfl⟩
  | setPower car pwr =>
    exact ⟨_, (exec_setPower car pwr s).trans (congrArg _ (withCar_of_valid_operand h)), rfl⟩
  | getGameState sel => exact ⟨_, exec_getGameState sel s, if_pos (of_decide_eq_true h)⟩
  | getLastUpdate sel => exact ⟨_, exec_getLastUpdate sel s, if_pos (of_decide_eq_true h)⟩
  | rxByte _ | txReady | ioError | watchdogTick | timerTick => cases hi

/-- Settles O29: a command's operands are valid or not, and each side has its lemma. -/
theorem commandIsRejectedExactlyOnInvalidOperands : Obligations.CommandIsRejectedExactlyOnInvalidOperands := by
  intro i s hi
  cases h : i.wellFormed s.params with
  | false => exact ⟨_, exec_of_not_wellFormed hi h, fun _ => rfl, nofun⟩
  | true =>
    obtain ⟨t, he, hok⟩ := exec_of_wellFormed hi h
    exact ⟨t, he, nofun, fun _ => hok⟩

/-- The two outcomes of a command: its rejection where the operands are bad, its own effect `Q` where they are good. -/
theorem exists_rejected_or_run {i : Instr} {bad good : Prop} {Q : State → Prop} (hi : i.isCommand = true)
    (hgood : i.wellFormed s.params = true ↔ good) (hbad : bad → ¬ good)
    (hrun : good → ∃ t, exec i s = .next t ∧ Q t) :
    ∃ t, exec i s = .next t ∧ (bad → t = { s with cmdStatus := .invalidArgument, cmdResult := 0 }) ∧ (good → Q t) := by
  by_cases h : good
  · obtain ⟨t, he, hq⟩ := hrun h
    exact ⟨t, he, fun hb => absurd h (hbad hb), fun _ => hq⟩
  · have hinvalid : i.wellFormed s.params = false := Bool.eq_false_iff.2 fun e => h (hgood.1 e)
    exact ⟨_, exec_of_not_wellFormed hi hinvalid, fun _ => rfl, fun e => absurd e h⟩

/-! Reserved words (R94, R100). -/

theorem runWord_reserved_command {w : BitVec 32} (h : ∀ i, decode (.command w) ≠ .ok i) (s : State) :
    runWord (.command w) s = .next (reject s) := by
  cases hd : decode (.command w) with
  | ok i => exact absurd hd (h i)
  | error r => simp only [runWord, hd]; rfl

theorem runWord_reserved_event {e : BitVec 12} (h : ∀ i, decode (.event e) ≠ .ok i) (s : State) :
    runWord (.event e) s = .next (setIllegalEvent s) := by
  cases hd : decode (.event e) with
  | ok i => exact absurd hd (h i)
  | error r => simp only [runWord, hd]; rfl

/-- Settles O6: a step presents its input, and a reserved word runs as the rejection or as the fault bit. -/
theorem reservedWordsAreHandledInPlace : Obligations.ReservedWordsAreHandledInPlace := by
  constructor
  · intro s inp rest w hin hword hreserved
    rw [step_of_inputs_cons hin, hword, runWord_reserved_command hreserved]
    rfl
  · intro s inp rest e hin hword hreserved
    rw [step_of_inputs_cons hin, hword, runWord_reserved_event hreserved]
    rfl

/-- Settles O28: the meaning of `LED_RESET` has one case, whatever the phase. -/
theorem ledResetRequestsCycleOne : Obligations.LedResetRequestsCycleOne := fun _ => rfl

end Sys2Proof.Machine
end

section
/-! The commands that change the game state (O19 to O23). -/

namespace Sys2Proof.Machine

variable {s t u : State}

/-! What `set_state` leaves of the race data and the drive bytes (R170). -/

/-- Entering STOPPED, or staying there, writes the drive bytes beside the state, the phase and the event (R170, R174). -/
theorem setState_stopped_frame (s : State) :
    setState .stopped s =
      { s with
        gameState := .stopped, drive := (setState .stopped s).drive, eventQ := (setState .stopped s).eventQ
        fault := (setState .stopped s).fault, ledPhase := (setState .stopped s).ledPhase } := by
  by_cases h : s.gameState = .stopped
  · rw [setState_same s h, ← h]
  · rw [setState_eq h]; rfl

/-- Entering any state but STOPPED, or staying there, writes no drive byte (R170). -/
theorem setState_frame_of_ne_stopped {g : GameState} (hs : g ≠ .stopped) (s : State) :
    setState g s =
      { s with
        gameState := g, cars := (setState g s).cars, finishedCarCount := (setState g s).finishedCarCount
        positions := (setState g s).positions, eventQ := (setState g s).eventQ, fault := (setState g s).fault
        ledPhase := (setState g s).ledPhase } := by
  by_cases h : s.gameState = g
  · rw [setState_same s h, ← h]
  · rw [setState_eq h]; simp only [if_neg hs]

/-- The drive bytes are cut on entering STOPPED and on no other move (R170). -/
theorem setState_drive (g : GameState) (s : State) :
    (setState g s).drive = if s.gameState ≠ g ∧ g = .stopped then (cutPower s).drive else s.drive := by
  by_cases h : s.gameState = g
  · simp [setState_same s h, h]
  · rw [setState_eq h]
    simp [h, apply_ite State.drive]

theorem PowerCut.of_drive (h : PowerCut s t) (hd : u.drive = t.drive) : PowerCut s u := by
  unfold PowerCut
  rw [hd]
  exact h

theorem setState_driveBrake (g : GameState) (s : State) (i : Slot) :
    driveBrake (setState g s).drive[i] = driveBrake s.drive[i] := by
  rw [setState_drive]
  split
  · obtain ⟨-, -, hbrake⟩ := powerCut_cutPower s i
    exact hbrake
  · rfl

theorem raceDataReset_setState {g : GameState} (h : s.gameState ≠ g) (hr : entryResetsRaceData g = true) :
    RaceDataReset s (setState g s) := by
  rw [setState_eq h, if_pos hr]
  exact raceDataReset_resetRaceData s

/-- Clearing a car forgets whether `set_state` has cleared it. -/
theorem clearedCar_setState (g : GameState) (s : State) (i : Slot) :
    clearedCar (setState g s).cars[i] = clearedCar s.cars[i] := by
  by_cases h : s.gameState = g
  · rw [setState_same s h]
  · rw [setState_eq h]
    cases g <;> simp [entryResetsRaceData, clearedCar]

/-- A race-data reset after a move of the game state is one of the state before the move. -/
theorem RaceDataReset.of_setState {g : GameState} (h : RaceDataReset (setState g s) t) : RaceDataReset s t := by
  obtain ⟨hcars, hcount, hpos⟩ := h
  exact ⟨fun i => (hcars i).trans (clearedCar_setState g s i), hcount, hpos⟩

/-- Race data once reset stay reset over a move of the game state. -/
theorem RaceDataReset.setState (h : RaceDataReset s t) (g : GameState) : RaceDataReset s (setState g t) := by
  obtain ⟨hcars, hcount, hpos⟩ := h
  by_cases hg : t.gameState = g
  · rw [setState_same t hg]
    exact ⟨hcars, hcount, hpos⟩
  · by_cases hreset : entryResetsRaceData g = true
    · obtain ⟨hcars', hcount', hpos'⟩ := raceDataReset_setState hg hreset
      exact ⟨fun i => by rw [hcars', hcars]; rfl, hcount', hpos'⟩
    · rw [setState_eq hg, if_neg hreset]
      exact ⟨hcars, hcount, hpos⟩

/-! The commands. -/

/-- Settles O19: `set_state` raises the event and asks for the LED reset on a change, `cut_power` acts in either case. -/
theorem stopStopsAndCutsPower : Obligations.StopStopsAndCutsPower := by
  intro s
  let u := setState .stopped s
  have hcut : PowerCut s (cutPower u) := fun i => by
    obtain ⟨hpower, hlane, hbrake⟩ := powerCut_cutPower u i
    exact ⟨hpower, hlane, hbrake.trans (setState_driveBrake .stopped s i)⟩
  have hraised : Raises s (cutPower u) (changeTo s .stopped) :=
    (raises_setState s .stopped).congr rfl rfl rfl (cutPower_eventQ u) (cutPower_fault u)
  refine ⟨respond .ok 0 (cutPower u), rfl, ?state, hcut, hraised, ?phase, ?frame⟩
  case state => simp [u]
  case phase => simp [u, setState_ledPhase]
  case frame =>
    simp only [u]
    rw [cutPower_frame, setState_stopped_frame]
    rfl

/-- Settles O20: a valid list is selected and the race data reset before `set_state`, which keeps them reset. -/
theorem initSelectsCarsAndEntersCountdown : Obligations.InitSelectsCarsAndEntersCountdown := by
  intro s laps mask
  refine exists_rejected_or_run rfl maskValid_iff (by omega) fun hmask => ?_
  let u : State := { resetRaceData (activate mask s) with targetLaps := laps.zeroExtend 32 }
  have hrun : exec (.init laps mask) s = .next (respond .ok 0 (setState .countdown u)) := by
    rw [exec_init, if_pos (maskValid_iff.2 hmask)]
  obtain ⟨hcars, hcount, hpos⟩ : RaceDataReset (activate mask s) (setState .countdown u) :=
    RaceDataReset.setState (t := u) (raceDataReset_resetRaceData (activate mask s)) .countdown
  refine ⟨_, hrun, fun i => ?cars, ?active, ?raised, ?phase, ?target, ?frame⟩
  case cars => rw [respond_cars, hcars]; simp [clearedCar]
  case active =>
    rw [respond_activeCarCount, setState_activeCarCount]
    exact (maskPopcount_toNat mask).trans List.countP_eq_length_filter
  case raised => exact (raises_setState u .countdown).congr rfl rfl rfl rfl rfl
  case phase => simp [u, setState_ledPhase]
  case target =>
    rw [respond_targetLaps, setState_targetLaps]
    exact BitVec.toNat_setWidth_of_le (by decide : 16 ≤ 32)
  case frame =>
    rw [setState_frame_of_ne_stopped (by decide) u, hcount, hpos]
    rfl

/-- Settles O21: one move of `set_state` in COUNTDOWN, the response alone elsewhere. -/
theorem startEntersStartingFromCountdownOnly : Obligations.StartEntersStartingFromCountdownOnly := by
  intro s
  by_cases h : s.gameState = .countdown
  · have hne : s.gameState ≠ .starting := by simp [h]
    have hrun : exec .start s = .next (respond .ok 0 (setState .starting s)) :=
      congrArg (fun v => Host.Outcome.next (respond .ok 0 v)) (if_pos h)
    refine ⟨_, hrun, absurd h, fun _ => ⟨raceDataReset_setState hne rfl, raises_setState_of_ne hne, ?_⟩⟩
    rw [setState_eq hne]
    rfl
  · have hrun : exec .start s = .next (respond .ok 0 s) :=
      congrArg (fun v => Host.Outcome.next (respond .ok 0 v)) (if_neg h)
    exact ⟨_, hrun, fun _ => rfl, fun e => absurd e h⟩

/-- Settles O22: `set_state` runs twice, and BINDING is always entered from STOPPED. -/
theorem bindEntersBindingViaStopped : Obligations.BindEntersBindingViaStopped := by
  intro s car
  refine exists_rejected_or_run rfl carValid_iff (by omega) fun hcar => ?_
  let u : State :=
    { setState .stopped s with bindStart := (setState .stopped s).clock, bindTarget := ⟨car.toNat, hcar⟩ }
  have hrun : exec (.bind car) s = .next (respond .ok 0 (setState .binding u)) :=
    congrArg Host.Outcome.next (withCar_of_valid hcar _)
  have hstopped : u.gameState = .stopped := setState_gameState s .stopped
  have hne : u.gameState ≠ .binding := by simp [hstopped]
  have hreset : RaceDataReset (setState .stopped s) (setState .binding u) := raceDataReset_setState hne rfl
  have hraised : Raises s u (changeTo s .stopped) := (raises_setState s .stopped).congr rfl rfl rfl rfl rfl
  have hparams : u.params = s.params := setState_params s .stopped
  refine ⟨_, hrun, hreset.of_setState, ?drive, hraised.trans (raises_setState_of_ne hne) hparams, ?target, ?frame⟩
  case drive =>
    have hdrive : (setState .binding u).drive = (setState .stopped s).drive := by simp [setState_drive, u]
    by_cases h : s.gameState = .stopped
    · rw [if_pos h, respond_drive, hdrive, setState_same s h]
    · rw [if_neg h]
      refine (powerCut_cutPower s).of_drive ?_
      rw [respond_drive, hdrive, setState_drive, if_pos ⟨h, rfl⟩]
  case target => simp [u]
  case frame =>
    rw [setState_eq hne]
    simp only [u]
    rw [setState_stopped_frame]
    rfl

/-- Settles O23: the race-data reset acts whether or not `set_state` has done it. -/
theorem trainEntersTrainingAndResetsRaceData : Obligations.TrainEntersTrainingAndResetsRaceData := by
  intro s
  have hreset : RaceDataReset (setState .training s) (resetRaceData (setState .training s)) :=
    raceDataReset_resetRaceData _
  refine ⟨_, rfl, hreset.of_setState, (raises_setState s .training).congr rfl rfl rfl rfl rfl, ?phase, ?frame⟩
  case phase => simp [setState_ledPhase]
  case frame =>
    exact congrArg (fun v => respond .ok 0 (resetRaceData v)) (setState_frame_of_ne_stopped (by decide) s)

end Sys2Proof.Machine
end

section
/-! The commands of one car (O24 to O26). -/

namespace Sys2Proof.Machine

variable {s : State}

/-- What the parameters' constraints say of the power (R95, R182). -/
theorem Params.powerMax_of_wf {p : Params} (h : p.wf = true) : p.powerMax.toNat ≤ 63 := by
  simp only [Params.wf, Bool.and_eq_true, decide_eq_true_eq] at h
  obtain ⟨⟨⟨⟨⟨_, hmax⟩, _⟩, _⟩, _⟩, _⟩ := h
  exact hmax

/-! `SET_POWER_RATE` (R181). -/

/-- Settles O24: one car record is written, and a percentage up to 100 fits the seven bits of the rate. -/
theorem setPowerRateWritesOneRate : Obligations.SetPowerRateWritesOneRate := by
  intro s car pct hwf
  obtain ⟨hmin, hmax, _⟩ := Params.rates_of_wf hwf
  have hvalid : (Instr.setPowerRate car pct).wellFormed s.params = true ↔
      car.toNat < 6 ∧ 1 ≤ pct.toNat ∧ pct.toNat ≤ s.params.rateMax.toNat := by
    simp only [Instr.wellFormed, Bool.and_eq_true, carValid_iff, pctValid_iff, hmin]
  refine exists_rejected_or_run rfl hvalid (by omega) fun hgood => ?_
  obtain ⟨hcar, hlow, hhigh⟩ := hgood
  let k : Slot := ⟨car.toNat, hcar⟩
  let u : State := updateCar k (fun c => { c with powerRate := pct.setWidth 7 }) s
  have hrun : exec (.setPowerRate car pct) s = .next (respond .ok 0 u) := by
    rw [exec_setPowerRate, withCar_of_valid hcar, if_pos (pctValid_iff.2 ⟨hmin ▸ hlow, hhigh⟩)]
  refine ⟨_, hrun, fun i hi => ?rate, fun i => ?record, fun i hi => ?other, rfl⟩
  case rate =>
    obtain rfl : i = k := Fin.ext hi
    rw [respond_cars, updateCar_get, if_pos rfl]
    simp only [BitVec.toNat_setWidth]
    omega
  case record =>
    rw [respond_cars, updateCar_get]
    split
    · next h => rw [h]
    · rfl
  case other =>
    have hne : i ≠ k := fun e => hi (congrArg Fin.val e)
    rw [respond_cars, updateCar_get, if_neg hne]

/-! `SET_POWER` (R182). -/

/-- A rate of at most 100 % scales a power of the 6-bit field to one of the field. -/
theorem scaledPower_toNat {p : Byte} {rate : BitVec 7} (hp : p.toNat ≤ 63) (hrate : rate.toNat ≤ 100) :
    (scaledPower p rate).toNat = p.toNat * rate.toNat / 100 ∧ p.toNat * rate.toNat / 100 ≤ 63 := by
  have hscaled : p.toNat * rate.toNat / 100 ≤ 63 :=
    calc p.toNat * rate.toNat / 100 ≤ 63 * 100 / 100 := Nat.div_le_div_right (Nat.mul_le_mul hp hrate)
      _ = 63 := rfl
  exact ⟨Nat.mod_eq_of_lt (by omega), hscaled⟩

/-- The power field written beside the brake and lane-change bits, in the asserted-high view (R90, R182). -/
theorem drive_withPower {d pw : Byte} (hpw : pw.toNat ≤ 63) :
    (drivePower (~~~(~~~d &&& 0xC0#8 ||| pw))).toNat = pw.toNat ∧
      driveBrake (~~~(~~~d &&& 0xC0#8 ||| pw)) = driveBrake d ∧ driveLane (~~~(~~~d &&& 0xC0#8 ||| pw)) = driveLane d := by
  have hhigh (j : Nat) (hj : 6 ≤ j) : pw.getLsbD j = false := by
    have hlt : pw.toNat < 2 ^ j :=
      calc pw.toNat < 2 ^ 6 := Nat.lt_succ_of_le hpw
        _ ≤ 2 ^ j := Nat.pow_le_pow_right (by decide) hj
    rw [← BitVec.testBit_toNat, Nat.testBit_lt_two_pow hlt]
  rw [drivePower_not, driveBrake_not, driveLane_not, driveBrake_eq, driveLane_eq]
  refine ⟨?power, ?brake, ?lane⟩
  case power =>
    have hmask : (0xC0#8).extractLsb' 0 6 = 0#6 := by decide
    rw [BitVec.extractLsb'_or, BitVec.extractLsb'_and, hmask, BitVec.and_zero, BitVec.zero_or, BitVec.extractLsb'_toNat]
    exact Nat.mod_eq_of_lt (by simp; omega)
  case brake =>
    rw [BitVec.getLsbD_or, BitVec.getLsbD_and, hhigh 7 (by decide)]
    simp
  case lane =>
    rw [BitVec.getLsbD_or, BitVec.getLsbD_and, hhigh 6 (by decide)]
    simp

/-- Settles O25: one drive byte is written, and the scaled power fits its field. -/
theorem setPowerScalesByTheRate : Obligations.SetPowerScalesByTheRate := by
  intro s car pwr hwf hrates
  have hmax : s.params.powerMax.toNat ≤ 63 := Params.powerMax_of_wf hwf
  have hvalid : (Instr.setPower car pwr).wellFormed s.params = true ↔
      car.toNat < 6 ∧ pwr.toNat ≤ s.params.powerMax.toNat := by
    simp only [Instr.wellFormed, Bool.and_eq_true, carValid_iff, pwrValid_iff]
  refine exists_rejected_or_run rfl hvalid (by omega) fun hgood => ?_
  obtain ⟨hcar, hpwr⟩ := hgood
  let k : Slot := ⟨car.toNat, hcar⟩
  have hrun : exec (.setPower car pwr) s = .next (respond .ok 0 (setPower k pwr s)) := by
    rw [exec_setPower, withCar_of_valid hcar, if_pos (pwrValid_iff.2 hpwr)]
  refine ⟨_, hrun, fun i hi => ?written, fun i hi => ?other, rfl⟩
  case written =>
    obtain rfl : i = k := Fin.ext hi
    obtain ⟨hscaled, hfits⟩ := scaledPower_toNat (Nat.le_trans hpwr hmax) (hrates k)
    rw [respond_drive, setPower, driveModify_get, if_pos rfl, ← hscaled]
    exact drive_withPower (hscaled ▸ hfits)
  case other =>
    have hne : i ≠ k := fun e => hi (congrArg Fin.val e)
    rw [respond_drive, setPower, driveModify_get, if_neg hne]

/-! `SET_BRAKE` and `SET_LANE_CHANGE` (R183, R184). -/

theorem setBrake_eq (i : Slot) (on : Bool) (s : State) : setBrake i on s = driveModify i (writeBit · 7 on) s := rfl

theorem setLaneChange_eq (i : Slot) (on : Bool) (s : State) :
    setLaneChange i on s = driveModify i (writeBit · 6 on) s := rfl

/-- A bit set in the asserted-high view is stored inverted, the other bits and bytes stay (R8, R175). -/
theorem driveModify_writeBit (s : State) (k i : Slot) (c b : Fin 8) (v : BitVec 1) :
    (driveModify k (writeBit · c (v == 1)) s).drive[i].getLsbD b.val =
      if i = k ∧ b = c then decide (v = 0) else s.drive[i].getLsbD b.val := by
  have hbit : (v == 1) = !decide (v = 0) := by revert v; decide
  rw [driveModify_get]
  by_cases hi : i = k
  · have hread := readBit_writeBit (~~~s.drive[k]) c b (v == 1)
    unfold readBit at hread
    rw [if_pos hi, BitVec.getLsbD_not, hread]
    by_cases hc : b = c
    · simpa [hi, hc] using hbit
    · simp [hi, hc]
  · simp [hi]

/-- What O26 says of each of the two commands, `c` being the bit it writes. -/
theorem setBit_rejected_or_run {i : Instr} {car : BitVec 4} {v : BitVec 1} {c : Fin 8} (hi : i.isCommand = true)
    (hvalid : i.wellFormed s.params = carValid car)
    (hrun : exec i s = .next (withCar car s fun k => respond .ok 0 (driveModify k (writeBit · c (v == 1)) s))) :
    ∃ t, exec i s = .next t ∧
      (6 ≤ car.toNat → t = { s with cmdStatus := .invalidArgument, cmdResult := 0 }) ∧
      (car.toNat < 6 →
        (∀ (i : Slot) (b : Fin 8), t.drive[i].getLsbD b.val =
          if i.val = car.toNat ∧ b = c then decide (v = 0) else s.drive[i].getLsbD b.val) ∧
        t = { s with drive := t.drive, cmdStatus := .ok, cmdResult := 0 }) := by
  refine exists_rejected_or_run hi (hvalid ▸ carValid_iff) (by omega) fun hcar => ?_
  refine ⟨_, hrun.trans (congrArg Host.Outcome.next (withCar_of_valid hcar _)), fun i b => ?_, rfl⟩
  rw [respond_drive, driveModify_writeBit]
  simp only [Fin.ext_iff]

/-- Settles O26: the two commands differ in the bit they write. -/
theorem setBrakeAndSetLaneChangeWriteOneBit : Obligations.SetBrakeAndSetLaneChangeWriteOneBit :=
  ⟨fun _ _ _ => setBit_rejected_or_run rfl rfl rfl, fun _ _ _ => setBit_rejected_or_run rfl rfl rfl⟩

end Sys2Proof.Machine
end

section
/-! The moves of the game state (O58): by the commands of R172, by the decode path before `enter_write`, and by LED cycle 2
in `enter_write` alone to RACE. -/

namespace Sys2Proof.Machine

variable {s t u : State}

/-- What O58 says of one run of `i`. -/
def GameMove (i : Instr) (s t : State) : Prop :=
  t.gameState ≠ s.gameState →
    gameTransition i s.gameState t.gameState = true ∧
      (t.gameState = .race → s.gameState = .starting ∧ s.ledPhase = .cycle2)

namespace GameMove

variable {i : Instr}

/-- No move at all. -/
theorem of_same (h : t.gameState = s.gameState) : GameMove i s t := fun hne => absurd h hne

/-- A move along a row whose target is not RACE. -/
theorem of_row (hrow : gameTransition i s.gameState t.gameState = true) (hrace : t.gameState ≠ .race) : GameMove i s t :=
  fun _ => ⟨hrow, fun e => absurd e hrace⟩

end GameMove

/-! The commands (R176 to R187). -/

theorem gameMove_reject (i : Instr) (s : State) : GameMove i s (reject s) := .of_same rfl

theorem gameMove_command {i : Instr} (hi : i.isCommand = true) (he : exec i s = .next t) : GameMove i s t := by
  cases i with
  | stop => cases he; exact .of_row (by simp [gameTransition]) (by simp)
  | init laps mask =>
    cases he
    split
    · exact gameMove_reject _ s
    · exact .of_row (by simp [gameTransition]) (by simp)
  | start =>
    cases he
    split
    · next hcountdown => exact .of_row (by simp [gameTransition, hcountdown]) (by simp)
    · exact .of_same rfl
  | bind car =>
    cases he
    exact withCar_cases s car (gameMove_reject _ s) fun i => .of_row (by simp [gameTransition]) (by simp)
  | train => cases he; exact .of_row (by simp [gameTransition]) (by simp)
  | setPowerRate car pct =>
    cases he
    refine withCar_cases s car (gameMove_reject _ s) fun i => .of_same ?_
    split <;> rfl
  | setPower car pwr =>
    cases he
    refine withCar_cases s car (gameMove_reject _ s) fun i => .of_same ?_
    split <;> rfl
  | setBrake car v | setLaneChange car v =>
    cases he
    exact withCar_cases s car (gameMove_reject _ s) fun i => .of_same rfl
  | getGameState sel | getLastUpdate sel =>
    cases he
    rw [respondSelected_eq_response]
    exact .of_same rfl
  | ledReset => cases he; exact .of_same rfl
  | rxByte _ | txReady | ioError | watchdogTick | timerTick => cases hi

/-! The decode path (R211, R222). -/

/-- The moves an accepted frame may make before `enter_write`: the bind timeout and a false start; it never brings on LED
cycle 2. -/
structure FrameMove (s u : State) : Prop where
  gameState : u.gameState = s.gameState ∨ (s.gameState = .binding ∧ u.gameState = .training) ∨
    ((s.gameState = .starting ∨ s.gameState = .countdown) ∧ u.gameState = .stopped) := by simp
  ledPhase : u.ledPhase = .cycle2 → s.ledPhase = .cycle2 := by simp

namespace FrameMove

theorem refl (s : State) : FrameMove s s := {}

/-- The states on both sides may be exchanged for ones with the same game state and no nearer to cycle 2. -/
theorem of_same {s' u' : State} (h : FrameMove s u) (hs : s.gameState = s'.gameState) (hu : u'.gameState = u.gameState)
    (hsp : s.ledPhase = .cycle2 → s'.ledPhase = .cycle2) (hup : u'.ledPhase = .cycle2 → u.ledPhase = .cycle2) :
    FrameMove s' u' where
  gameState := by rw [← hs, hu]; exact h.gameState
  ledPhase := hsp ∘ h.ledPhase ∘ hup

/-- Only a state in STARTING before the frame is in STARTING after it. -/
theorem starting (h : FrameMove s u) (hu : u.gameState = .starting) : s.gameState = .starting := by
  rcases h.gameState with hsame | ⟨-, htraining⟩ | ⟨-, hstopped⟩
  · rw [← hsame, hu]
  · simp [hu] at htraining
  · simp [hu] at hstopped

end FrameMove

theorem setState_ledPhase_cycle2 {g : GameState} (h : (setState g s).ledPhase = .cycle2) : s.ledPhase = .cycle2 := by
  rw [setState_ledPhase] at h
  split at h
  · exact h
  · cases h

theorem frameMove_bindingStep (h : s.gameState = .binding) : FrameMove s (bindingStep s) := by
  unfold bindingStep
  split
  · exact {}
  · exact { gameState := .inr (.inl ⟨h, by simp⟩) }

theorem frameMove_crossing (k : Slot) (now : Time) (s : State) : FrameMove s (crossing k now s) := by
  unfold crossing
  split
  · exact {}
  · split
    · next h =>
      exact {
        gameState := .inr (.inr ⟨h, by simp [falseStart]⟩)
        ledPhase := fun e => by simpa using setState_ledPhase_cycle2 e }
    · exact .refl s

@[simp] theorem setGameTime_gameState (now : Time) (s : State) : (setGameTime now s).gameState = s.gameState := by
  unfold setGameTime
  split <;> rfl

@[simp] theorem setGameTime_ledPhase (now : Time) (s : State) : (setGameTime now s).ledPhase = s.ledPhase := by
  unfold setGameTime
  split <;> rfl

theorem frameMove_crossingStep (f g : InFrame) (s : State) : FrameMove s (crossingStep f g s) := by
  rw [crossingStep_eq]
  split
  · exact .refl s
  · generalize ticksToUs s.params (lapTimer s.params f) = now
    cases crossingSlot (carIn f) with
    | none => exact {}
    | some k =>
      have hcrossing : FrameMove (setGameTime now s) (crossing k now (setGameTime now s)) := frameMove_crossing k now _
      exact hcrossing.of_same (by simp) (by simp) (by simp) (by simp)

theorem frameMove_onFrame (f g : InFrame) (s : State) : FrameMove s (onFrame f g s) := by
  unfold onFrame
  split
  · next h => exact frameMove_bindingStep h
  · have hcrossing := frameMove_crossingStep f g (driveStep f g (connectivityStep f s))
    exact hcrossing.of_same (by simp) (by simp) (by simp) (by simp)

theorem connectCheck_ledPhase_cycle2 (h : (connectCheck s).ledPhase = .cycle2) : s.ledPhase = .cycle2 := by
  unfold connectCheck at h
  split at h
  · exact h
  · cases h

/-! Entering WRITE (R147, R149). -/

/-- Cycle 2 promotes STARTING to RACE; no other LED cycle moves the game state. -/
theorem ledCycle_gameState (s : State) :
    (ledCycle s).gameState = if s.ledPhase = .cycle2 ∧ s.gameState = .starting then .race else s.gameState := by
  cases h : s.ledPhase with
  | idle => rw [ledCycle_of_idle h]; simp
  | cycle1 => rw [ledCycle_of_cycle1 h]; simp
  | cycle2 => rw [ledCycle_of_cycle2 h, ledCycle2_gameState]; simp

/-- A completed frame, good or corrupt, makes its move and then enters WRITE (R143, R146). -/
theorem completeFrame_move (s : State) : ∃ u, FrameMove s u ∧ completeFrame s = enterWrite u := by
  cases h : frameOk s.params s.rxBuf with
  | false => exact ⟨_, {}, completeFrame_of_corrupt h⟩
  | true =>
    refine ⟨_, ?_, completeFrame_of_good h⟩
    exact (frameMove_onFrame _ _ _).of_same (by simp) rfl connectCheck_ledPhase_cycle2 id

/-- The rows of `RX_BYTE` in R172: a frame's own move, or the promotion `enter_write` makes after it. -/
theorem gameMove_enterWrite (h : FrameMove s u) (b : Byte) : GameMove (.rxByte b) s (enterWrite u) := by
  intro hne
  rw [enterWrite_gameState, ledCycle_gameState] at hne ⊢
  split at hne
  · next hpromoted =>
    obtain ⟨hphase, hstate⟩ := hpromoted
    have hstarting : s.gameState = .starting := h.starting hstate
    rw [if_pos ⟨hphase, hstate⟩]
    exact ⟨by simp [gameTransition, hstarting], fun _ => ⟨hstarting, h.ledPhase hphase⟩⟩
  · next hpromoted =>
    rw [if_neg hpromoted]
    rcases h.gameState with hsame | ⟨hbinding, htraining⟩ | ⟨hgrid, hstopped⟩
    · exact absurd hsame hne
    · simp [gameTransition, hbinding, htraining]
    · simp [gameTransition, hgrid, hstopped]

theorem gameMove_rxByte {b : Byte} (he : exec (.rxByte b) s = .next t) : GameMove (.rxByte b) s t := by
  cases he
  split
  · unfold receiveByte
    dsimp only
    split
    · obtain ⟨u, hmove, hwrite⟩ := completeFrame_move (storeRx b s)
      rw [hwrite]
      exact gameMove_enterWrite (hmove.of_same rfl rfl id id) b
    · exact .of_same rfl
  · exact .of_same rfl

theorem gameMove_watchdogTick (he : exec .watchdogTick s = .next t) : GameMove .watchdogTick s t := by
  cases he
  split
  · intro hne
    have hstate : (reconnect s).gameState =
        if s.ledPhase = .cycle2 ∧ s.gameState = .starting then .race else s.gameState := ledCycle_gameState _
    rw [hstate] at hne ⊢
    split at hne
    · next hpromoted => simp [gameTransition, hpromoted]
    · exact absurd rfl hne
  · exact .of_same rfl

/-! The other events. -/

@[simp] theorem transmitByte_gameState (s : State) : (transmitByte s).gameState = s.gameState := by
  unfold transmitByte
  split
  · dsimp only
    split <;> rfl
  · rfl

theorem gameMove_timerTick (he : exec .timerTick s = .next t) : GameMove .timerTick s t := by
  cases he
  split
  · dsimp only
    split
    · exact .of_row (by simp [finishRace, gameTransition]) (by simp [finishRace])
    · exact .of_same rfl
  · exact .of_same rfl

theorem exec_gameMove {i : Instr} (he : exec i s = .next t) : GameMove i s t := by
  by_cases hi : i.isCommand = true
  · exact gameMove_command hi he
  · cases i with
    | rxByte b => exact gameMove_rxByte he
    | txReady =>
      cases he
      split
      · exact .of_same (transmitByte_gameState s)
      · exact .of_same rfl
    | ioError => cases he; exact .of_same rfl
    | watchdogTick => exact gameMove_watchdogTick he
    | timerTick => exact gameMove_timerTick he
    | _ => exact absurd rfl hi

/-- Settles O58, instruction by instruction. -/
theorem gameStateFollowsTheTransitionTable : Obligations.GameStateFollowsTheTransitionTable :=
  fun _ _ _ => exec_gameMove

end Sys2Proof.Machine
end

section
/-! The order of the positions and the ranking (O17, O18). -/

namespace Sys2Proof.Machine

variable {cars : PerSlot CarState} {a b c : Slot}

/-! The position order (R225): it is the lexicographic order of the slots' keys. -/

/-- What orders a slot: more laps first, then the earlier crossing, then the lower index (R225). -/
def rankKey (cars : PerSlot CarState) (a : Slot) : Natᵒᵈ ×ₗ Nat ×ₗ Slot :=
  toLex (OrderDual.toDual cars[a].laps.toNat, toLex (cars[a].lastCrossingTime.toNat, a))

theorem before_iff :
    before cars a b = true ↔
      (cars[b].laps < cars[a].laps ∨
       (cars[a].laps = cars[b].laps ∧ (cars[a].lastCrossingTime < cars[b].lastCrossingTime ∨
         (cars[a].lastCrossingTime = cars[b].lastCrossingTime ∧ a < b)))) := by
  unfold before
  split
  · next hlaps => simp [hlaps, -Fin.getElem_fin]
  · next hlaps =>
    rw [not_not] at hlaps
    split
    · next htime => simp [hlaps, htime, -Fin.getElem_fin]
    · next htime =>
      rw [not_not] at htime
      simp [hlaps, htime, -Fin.getElem_fin]

theorem before_iff_rankKey_lt : before cars a b = true ↔ rankKey cars a < rankKey cars b := by
  simp only [before_iff, rankKey, Prod.Lex.toLex_lt_toLex, OrderDual.toDual_lt_toDual, OrderDual.toDual_inj,
    BitVec.lt_def, BitVec.toNat_inj]

theorem rankKey_injective (cars : PerSlot CarState) : Function.Injective (rankKey cars) := fun _ _ h =>
  congrArg (fun key => (ofLex (ofLex key).2).2) h

theorem before_irrefl (cars : PerSlot CarState) (a : Slot) : before cars a a = false := by
  rw [← Bool.not_eq_true, before_iff_rankKey_lt]
  exact lt_irrefl _

theorem before_trans (hab : before cars a b = true) (hbc : before cars b c = true) : before cars a c = true := by
  rw [before_iff_rankKey_lt] at *
  exact hab.trans hbc

theorem before_iff_not_before (h : a ≠ b) : before cars a b = true ↔ before cars b a = false := by
  have hkey : rankKey cars a ≠ rankKey cars b := (rankKey_injective cars).ne h
  rw [← Bool.not_eq_true, before_iff_rankKey_lt, before_iff_rankKey_lt, not_lt]
  exact ⟨le_of_lt, fun hle => hle.lt_of_ne hkey⟩

/-- Settles O17: the order is that of the keys, and a second ranking sorts the same cars. -/
theorem positionOrderIsStrictAndTotal : Obligations.PositionOrderIsStrictAndTotal := fun cars =>
  ⟨fun _ _ => before_iff_not_before, before_irrefl cars, fun _ _ _ => before_trans, fun _ _ => before_iff, fun _ => rfl⟩

/-! `rank` and `report` (R226). -/

/-- Inserting a new slot into a ranked list keeps it ranked: of the new slot and the head, one is before the other. -/
theorem pairwise_orderedInsert_before (a : Slot) : ∀ {l : List Slot}, a ∉ l →
    l.Pairwise (fun x y => before cars x y = true) →
    (l.orderedInsert (fun x y => before cars x y = true) a).Pairwise fun x y => before cars x y = true
  | [], _, _ => by simp
  | b :: l, hnew, hranked => by
    rw [List.mem_cons, not_or] at hnew
    obtain ⟨hne, hnew⟩ := hnew
    obtain ⟨hb, hl⟩ := List.pairwise_cons.1 hranked
    by_cases hab : before cars a b = true
    · rw [List.orderedInsert_cons_of_le (fun x y => before cars x y = true) l hab, List.pairwise_cons]
      refine ⟨fun c hc => ?_, hranked⟩
      rcases List.mem_cons.1 hc with rfl | hc
      · exact hab
      · exact before_trans hab (hb c hc)
    · have hba : before cars b a = true := (before_iff_not_before (Ne.symm hne)).2 (Bool.eq_false_of_not_eq_true hab)
      rw [List.orderedInsert_of_not_le (fun x y => before cars x y = true) l hab, List.pairwise_cons]
      refine ⟨fun c hc => ?_, pairwise_orderedInsert_before a hnew hl⟩
      rcases (List.mem_orderedInsert _).1 hc with rfl | hc
      · exact hba
      · exact hb c hc

theorem pairwise_insertionSort_before : ∀ {l : List Slot}, l.Nodup →
    (l.insertionSort fun x y => before cars x y = true).Pairwise fun x y => before cars x y = true
  | [], _ => by simp
  | a :: l, h => by
    obtain ⟨hnew, hl⟩ := List.nodup_cons.1 h
    exact pairwise_orderedInsert_before a (mt (List.mem_insertionSort _).1 hnew) (pairwise_insertionSort_before hl)

theorem ranked_rank (s : State) : Ranked s.cars (rank s).positions := by
  unfold Ranked
  rw [rank_positions_toList]
  exact ⟨rankedSlots_perm s.cars, pairwise_insertionSort_before (by decide)⟩

/-- Two lists ranked by a strict order on the same slots are one list (R226). -/
theorem ranked_unique {x y : PerSlot Slot} (hx : Ranked cars x) (hy : Ranked cars y) : x = y := by
  obtain ⟨hxp, hxr⟩ := hx
  obtain ⟨hyp, hyr⟩ := hy
  have hasymm (a b : Slot) (hab : before cars a b = true) (hba : before cars b a = true) : a = b := by
    have := before_trans hab hba
    rw [before_irrefl] at this
    cases this
  exact Vector.toList_inj.1 (List.Perm.eq_of_pairwise (fun a b _ _ => hasymm a b) hxr hyr (hxp.trans hyp.symm))

theorem mem_report {s : State} {i : Slot} :
    i ∈ report s ↔ (s.gameState = .training ∨ s.cars[i].active = true) ∧ i ∈ s.positions.toList := by
  simp [report, and_comm]

/-- Settles O18: insertion into a ranked list keeps it ranked, and the strict order leaves one ranking. -/
theorem rankSortsAllSixSlots : Obligations.RankSortsAllSixSlots :=
  ⟨fun s => ⟨ranked_rank s, rfl⟩, fun _ _ _ => ranked_unique, fun _ => ⟨fun _ => mem_report, List.filter_sublist⟩⟩

end Sys2Proof.Machine
end

section
/-! Handsets to drive bytes (O43 to O45): each turn of the drive step is one `drive_modify` of its slot, by a byte
function that depends on no drive byte. -/

namespace Sys2Proof.Machine

variable {s : State} {i : Slot}

/-! Modifications of one slot's byte (R175). -/

theorem driveModify_id (i : Slot) (s : State) : driveModify i id s = s := by
  simp [driveModify_eq, withDrive]

theorem driveModify_comp (i : Slot) (f g : Byte → Byte) (s : State) :
    driveModify i g (driveModify i f s) = driveModify i (g ∘ f) s := by
  simp [driveModify_eq]

theorem driveModify_frame (i : Slot) (g : Byte → Byte) (s : State) :
    (∀ j : Slot, j ≠ i → (driveModify i g s).drive[j] = s.drive[j]) ∧
      driveModify i g s = { s with drive := (driveModify i g s).drive } :=
  ⟨fun j hj => by rw [driveModify_get, if_neg hj], rfl⟩

/-- A loop of modifications, one a slot, whose byte functions depend on no drive byte, makes each of them once. -/
theorem forSlots_driveModify {turn : Slot → State → State} (g : Slot → Byte → Byte)
    (h : ∀ i (v : PerSlot Byte), turn i (withDrive v s) = driveModify i (g i) (withDrive v s)) :
    forSlots turn s = withDrive (Vector.ofFn fun i => (driveModify i (g i) s).drive[i]) s := by
  refine forSlots_drive s _ _ fun i v hi => ?_
  rw [h, driveModify_eq, driveModify_get, if_pos rfl, withDrive_drive, withDrive_withDrive, hi]

/-! `map_handset` (R214). -/

/-- The brake and lane-change bits of the asserted-high byte `v` after the handset's edges (R214). -/
def mappedBits (h hp v : Byte) : Byte :=
  let v := if readBit (h ^^^ hp) 7 then writeBit v 7 (brakeIn h) else v
  if readBit (h ^^^ hp) 6 then writeBit v 6 (laneIn h) else v

/-- What `map_handset` makes of the asserted-high byte `v`, by the power rate of its slot (R214). -/
def mappedByte (h hp : Byte) (rate : BitVec 7) (v : Byte) : Byte :=
  if (h ^^^ hp).extractLsb' 0 6 ≠ 0 then (mappedBits h hp v &&& 0xC0#8) ||| scaledPower ((powerIn h).zeroExtend 8) rate
  else mappedBits h hp v

theorem ite_driveModify (c : Prop) [Decidable c] (g : Byte → Byte) (s : State) :
    (if c then driveModify i g s else s) = driveModify i (fun v => if c then g v else v) s := by
  split
  · rfl
  · exact (driveModify_id i s).symm

theorem mapHandset_eq (i : Slot) (h hp : Byte) (s : State) :
    mapHandset i h hp s = driveModify i (mappedByte h hp s.cars[i].powerRate) s := by
  unfold mapHandset
  simp only [setBrake_eq, setLaneChange_eq, setPower, ite_driveModify]
  simp only [driveModify_cars, driveModify_comp]
  rfl

theorem readBit_xor_iff {h hp : Byte} {b : Fin 8} :
    readBit (h ^^^ hp) b = true ↔ ¬ h.getLsbD b.val = hp.getLsbD b.val := by
  simp [readBit]

theorem powerBits_ne_iff {h hp : Byte} : (h ^^^ hp).extractLsb' 0 6 ≠ 0 ↔ ¬ h.toNat % 64 = hp.toNat % 64 := by
  have hxor : (h ^^^ hp).extractLsb' 0 6 = 0 ↔ h.extractLsb' 0 6 = hp.extractLsb' 0 6 := by
    rw [BitVec.extractLsb'_xor]
    exact BitVec.xor_eq_zero_iff
  rw [Ne, hxor, ← BitVec.toNat_inj]
  simp

theorem powerIn_toNat (h : Byte) : (powerIn h).toNat = 63 - h.toNat % 64 := by
  simp [powerIn]
  omega

/-- The power field written beside the brake and lane-change bits, of the byte itself. -/
theorem withPower_fields {v pw : Byte} (hpw : pw.toNat ≤ 63) :
    ((v &&& 0xC0#8 ||| pw).extractLsb' 0 6).toNat = pw.toNat ∧
      (v &&& 0xC0#8 ||| pw).getLsbD 7 = v.getLsbD 7 ∧ (v &&& 0xC0#8 ||| pw).getLsbD 6 = v.getLsbD 6 := by
  simpa only [drivePower_not, driveBrake_not, driveLane_not, BitVec.not_not] using drive_withPower (d := ~~~v) hpw

/-- Writing the brake or the lane-change bit leaves the power field. -/
theorem writeBit_power {c : Fin 8} (hc : 6 ≤ c.val) (v : Byte) (x : Bool) :
    (writeBit v c x).extractLsb' 0 6 = v.extractLsb' 0 6 := by
  ext j hj
  have hne : (⟨j, by omega⟩ : Fin 8) ≠ c := Fin.ne_of_val_ne (by dsimp only; omega)
  have hbit := readBit_writeBit v c ⟨j, by omega⟩ x
  simpa [readBit, hne, hj] using hbit

theorem mappedBits_fields (h hp v : Byte) :
    (mappedBits h hp v).getLsbD 7 = (if h.getLsbD 7 = hp.getLsbD 7 then v.getLsbD 7 else !h.getLsbD 7) ∧
      (mappedBits h hp v).getLsbD 6 = (if h.getLsbD 6 = hp.getLsbD 6 then v.getLsbD 6 else !h.getLsbD 6) ∧
      (mappedBits h hp v).extractLsb' 0 6 = v.extractLsb' 0 6 := by
  refine ⟨?brake, ?lane, ?power⟩
  case brake =>
    have hbit : readBit (mappedBits h hp v) 7 = if readBit (h ^^^ hp) 7 then brakeIn h else readBit v 7 := by
      simp [mappedBits, apply_ite (readBit · 7), readBit_writeBit]
    simp only [readBit_xor_iff, ite_not] at hbit
    exact hbit
  case lane =>
    have hbit : readBit (mappedBits h hp v) 6 = if readBit (h ^^^ hp) 6 then laneIn h else readBit v 6 := by
      simp [mappedBits, apply_ite (readBit · 6), readBit_writeBit]
    simp only [readBit_xor_iff, ite_not] at hbit
    exact hbit
  case power => simp [mappedBits, apply_ite (BitVec.extractLsb' 0 6), writeBit_power]

/-- Each field of the asserted-high byte follows its own edge (R214). -/
theorem mappedByte_fields {h hp v : Byte} {rate : BitVec 7} (hrate : rate.toNat ≤ 100) :
    (mappedByte h hp rate v).getLsbD 7 = (if h.getLsbD 7 = hp.getLsbD 7 then v.getLsbD 7 else !h.getLsbD 7) ∧
      (mappedByte h hp rate v).getLsbD 6 = (if h.getLsbD 6 = hp.getLsbD 6 then v.getLsbD 6 else !h.getLsbD 6) ∧
      ((mappedByte h hp rate v).extractLsb' 0 6).toNat =
        (if h.toNat % 64 = hp.toNat % 64 then (v.extractLsb' 0 6).toNat
         else (63 - h.toNat % 64) * rate.toNat / 100) := by
  have hpower : ((powerIn h).zeroExtend 8).toNat = 63 - h.toNat % 64 :=
    (BitVec.toNat_setWidth_of_le (by decide)).trans (powerIn_toNat h)
  obtain ⟨hscaled, hfits⟩ := scaledPower_toNat (p := (powerIn h).zeroExtend 8) (by omega) hrate
  obtain ⟨hbrake, hlane, hkept⟩ := mappedBits_fields h hp v
  obtain ⟨hfield, hbrake', hlane'⟩ := withPower_fields (v := mappedBits h hp v) (hscaled ▸ hfits)
  unfold mappedByte
  simp only [powerBits_ne_iff, ite_not]
  split
  · exact ⟨hbrake, hlane, by rw [hkept]⟩
  · exact ⟨hbrake'.trans hbrake, hlane'.trans hlane, by rw [hfield, hscaled, hpower]⟩

/-- Settles O43: the drive byte is the complement of the mapped one. -/
theorem handsetEdgesMapToTheDriveByte : Obligations.HandsetEdgesMapToTheDriveByte := by
  intro s i h hp hrate t
  have ht : t = driveModify i (mappedByte h hp s.cars[i].powerRate) s := mapHandset_eq i h hp s
  obtain ⟨hother, hframe⟩ := driveModify_frame i (mappedByte h hp s.cars[i].powerRate) s
  obtain ⟨hbrake, hlane, hpower⟩ := mappedByte_fields (h := h) (hp := hp) (v := ~~~s.drive[i]) hrate
  rw [ht]
  refine ⟨?_, ?_, ?_, hother, hframe⟩
  · rw [driveModify_get, if_pos rfl, driveBrake_not, driveBrake_eq, hbrake]
  · rw [driveModify_get, if_pos rfl, driveLane_not, driveLane_eq, hlane]
  · rw [driveModify_get, if_pos rfl, drivePower_not, hpower]
    rfl

/-! `coast` (R215). -/

/-- What `coast` makes of the asserted-high byte `v` of slot `i` (R215). -/
def coastedByte (s : State) (i : Slot) (v : Byte) : Byte :=
  (v &&& 0xC0#8) |||
    if s.gameTime - s.cars[i].lastCrossingTime < s.params.coastUs then s.params.coastPower.zeroExtend 8 else 0

theorem coast_eq (i : Slot) (s : State) : coast i s = driveModify i (coastedByte s i) s := rfl

/-- Settles O45: the raw power fits the field, and one drive byte is written. -/
theorem coastHoldsThenCutsPower : Obligations.CoastHoldsThenCutsPower := by
  intro s i t
  let pw : Byte :=
    if s.gameTime - s.cars[i].lastCrossingTime < s.params.coastUs then s.params.coastPower.zeroExtend 8 else 0
  have hraw : (s.params.coastPower.zeroExtend 8).toNat = s.params.coastPower.toNat :=
    BitVec.toNat_setWidth_of_le (by decide)
  have hpw : pw.toNat = (if (s.gameTime - s.cars[i].lastCrossingTime).toNat < s.params.coastUs.toNat
      then s.params.coastPower else 0).toNat := by
    simp only [pw, BitVec.lt_def]
    split
    · exact hraw
    · rfl
  have hbyte : t.drive[i] = ~~~(~~~s.drive[i] &&& 0xC0#8 ||| pw) := by
    simp only [t, coast_eq, driveModify_get, if_true]
    rfl
  obtain ⟨hpower, hbrake, hlane⟩ := drive_withPower (d := s.drive[i]) (pw := pw) (by omega)
  obtain ⟨hother, hframe⟩ := driveModify_frame i (coastedByte s i) s
  rw [hbyte]
  exact ⟨BitVec.eq_of_toNat_eq (hpower.trans hpw), hbrake, hlane, hother, hframe⟩

/-! `drive_step` (R213). -/

/-- What the drive step makes of the asserted-high byte of slot `i`, by the slot's flags and the state (R213). -/
def drivenByte (f g : InFrame) (s : State) (i : Slot) : Byte → Byte :=
  if slotMapped s i then mappedByte (handsetIn f i) (handsetIn g i) s.cars[i].powerRate
  else if s.cars[i].active && s.cars[i].finished then coastedByte s i
  else id

theorem driveOf_eq (f g : InFrame) (i : Slot) (s : State) : driveOf f g i s = driveModify i (drivenByte f g s i) s := by
  unfold driveOf drivenByte
  split
  · exact mapHandset_eq i _ _ s
  · split
    · exact coast_eq i s
    · exact (driveModify_id i s).symm

/-- The turns of the drive step do not see each other's bytes. -/
theorem driveStep_eq (f g : InFrame) (h : s.gameState ≠ .stopped) :
    driveStep f g s = withDrive (Vector.ofFn fun i => (driveOf f g i s).drive[i]) s := by
  unfold driveStep
  rw [if_neg h, forSlots_driveModify (drivenByte f g s) fun i v => driveOf_eq f g i (withDrive v s)]
  simp only [driveOf_eq]

/-- Settles O44: each slot's byte is that of its own turn, run alone. -/
theorem driveStepTreatsEachSlotByItsFlags : Obligations.DriveStepTreatsEachSlotByItsFlags := by
  intro s f g t
  by_cases h : s.gameState = .stopped
  · have ht : t = s := if_pos h
    rw [ht]
    exact ⟨fun _ => rfl, fun hne => absurd h hne, rfl⟩
  · have ht : t = _ := driveStep_eq f g h
    have hslot (i : Slot) : t.drive[i] = (driveOf f g i s).drive[i] := by
      rw [ht]
      simp
    refine ⟨fun e => absurd e h, fun _ i => ?_, by rw [ht]; rfl⟩
    rw [hslot i]
    refine ⟨fun hmap => ?_, fun ⟨hne, hactive, hfinished⟩ => ?_, fun ⟨hne, hinactive⟩ => ?_⟩
    · have : slotMapped s i = true := by simpa [slotMapped] using hmap
      rw [driveOf, if_pos this]
      rfl
    · simp only [driveOf, slotMapped, hne, hactive, hfinished]
      rfl
    · simp only [driveOf, slotMapped, hne, hinactive]
      rfl

end Sys2Proof.Machine
end

section
/-! A frame in BINDING (O41) and the connectivity step (O42). -/

namespace Sys2Proof.Machine

variable {s u : State}

/-! The binding step (R210, R211). -/

theorem oneHot_bit (i b : Fin 8) : (1#8 <<< i.val).getLsbD b.val = decide (b = i) := by
  revert i b
  decide

theorem bindingPattern_bit (p : Params) (target : Slot) (b : Fin 8) :
    (bindingPattern p target).getLsbD b.val =
      (decide (b = p.ledRedBit ∨ b = p.ledHandsetBit[target]) ^^ p.ledActiveLow) := by
  have hlit : ((1#8 <<< p.ledRedBit.val) ||| (1#8 <<< p.ledHandsetBit[target].val)).getLsbD b.val =
      decide (b = p.ledRedBit ∨ b = p.ledHandsetBit[target]) := by
    rw [BitVec.getLsbD_or, oneHot_bit, oneHot_bit, Bool.decide_or]
  unfold bindingPattern
  cases p.ledActiveLow with
  | false => simpa using hlit
  | true => simp only [if_true, BitVec.getLsbD_not, hlit, b.isLt, decide_true, Bool.true_and, Bool.xor_true]

theorem onFrame_of_binding (h : s.gameState = .binding) (f g : InFrame) : onFrame f g s = bindingStep s := if_pos h

theorem bindingStep_of_early (h : (s.clock - s.bindStart).toNat < s.params.bindUs.toNat) :
    bindingStep s = { s with ledStatus := bindingPattern s.params s.bindTarget } := if_pos h

theorem bindingStep_of_late (h : s.params.bindUs.toNat ≤ (s.clock - s.bindStart).toNat) :
    bindingStep s = requestLedReset (setState .training s) := if_neg (Nat.not_lt.2 h)

/-- Settles O41: before `BIND_US` the pattern is written, from then on `set_state` enters TRAINING. -/
theorem bindingFrameRunsStepOneOnly : Obligations.BindingFrameRunsStepOneOnly := by
  intro s f g _ hbinding t
  have ht : t = bindingStep s := onFrame_of_binding hbinding f g
  refine ⟨fun hearly => ?_, fun hlate => ?_⟩
  · rw [ht, bindingStep_of_early hearly]
    exact ⟨bindingPattern_bit s.params s.bindTarget, rfl⟩
  · have hne : s.gameState ≠ .training := by simp [hbinding]
    rw [ht, bindingStep_of_late hlate]
    refine ⟨raceDataReset_setState hne rfl, ?_, ?_⟩
    · exact (raises_setState_of_ne hne).congr rfl rfl rfl rfl rfl
    · rw [setState_eq hne]
      rfl

/-! The connectivity step (R212). -/

/-- The LED of slot `i` follows the frame (R212). -/
def showConn (f : InFrame) (i : Slot) (u : State) : State := writeLed u.params.ledHandsetBit[i] (connIn u.params f i) u

theorem connectivityOf_same {f : InFrame} {i : Slot} (h : connIn u.params f i = u.conn[i]) :
    connectivityOf f i u = showConn f i u := if_pos h

theorem connectivityOf_changed {f : InFrame} {i : Slot} (h : connIn u.params f i ≠ u.conn[i]) :
    connectivityOf f i u =
      { enqueue (.connectivityChange i (connIn u.params f i)) (showConn f i u) with
        conn := u.conn.set i (connIn u.params f i) } := by
  simp only [connectivityOf, writeLed_conn, if_neg h, enqueue_conn]
  rfl

theorem connectivityOf_conn (f : InFrame) (i j : Slot) (u : State) :
    (connectivityOf f i u).conn[j] = if j = i then connIn u.params f i else u.conn[j] := by
  by_cases h : connIn u.params f i = u.conn[i]
  · rw [connectivityOf_same h, h]
    split
    · next hj => rw [hj]; rfl
    · rfl
  · rw [connectivityOf_changed h]
    simp only [Fin.getElem_fin, Vector.getElem_set, Fin.ext_iff, eq_comm]

theorem connectivityOf_bit (f : InFrame) (i : Slot) (b : Fin 8) (u : State) :
    (connectivityOf f i u).ledStatus.getLsbD b.val =
      if b = u.params.ledHandsetBit[i] then (connIn u.params f i ^^ u.params.ledActiveLow)
      else u.ledStatus.getLsbD b.val := by
  have hled : (connectivityOf f i u).ledStatus = (showConn f i u).ledStatus := by
    by_cases h : connIn u.params f i = u.conn[i]
    · rw [connectivityOf_same h]
    · rw [connectivityOf_changed h, enqueue_ledStatus]
  rw [hled]
  exact writeLed_bit u _ b _

/-- The change one turn raises, where there is one (R212). -/
def connChange (f : InFrame) (u : State) (i : Slot) : List Event :=
  if connIn u.params f i != u.conn[i] then [.connectivityChange i (connIn u.params f i)] else []

theorem raises_connectivityOf (f : InFrame) (i : Slot) (u : State) :
    Raises u (connectivityOf f i u) (connChange f u i) := by
  unfold connChange
  by_cases h : connIn u.params f i = u.conn[i]
  · rw [connectivityOf_same h, if_neg (by simpa using h)]
    exact (Raises.refl u).congr rfl rfl rfl rfl rfl
  · rw [connectivityOf_changed h, if_pos (bne_iff_ne.2 h)]
    exact (raises_enqueue (showConn f i u) _).congr rfl rfl rfl rfl rfl

theorem mem_allSlots : ∀ i : Slot, i ∈ allSlots := by decide

/-- Where turn `i` of a loop writes what `F` reads for slot `i` and nothing else that `F` reads, the loop writes it for
all. -/
theorem forSlots_writes {α : Type} {P : State → Prop} {turn : Slot → State → State} (F : State → Slot → α)
    (v : Slot → α) (hkeep : ∀ i u, P u → P (turn i u))
    (hwrite : ∀ i j u, P u → F (turn i u) j = if j = i then v i else F u j) (hs : P s) (j : Slot) :
    F (forSlots turn s) j = v j := by
  have hlist (l : List Slot) : ∀ u, P u → F (l.foldl (fun acc i => turn i acc) u) j = if j ∈ l then v j else F u j := by
    induction l with
    | nil => simp
    | cons i l ih =>
      intro u hu
      rw [List.foldl_cons, ih _ (hkeep i u hu), hwrite i j u hu]
      by_cases hj : j = i <;> simp [hj]
  rw [forSlots, hlist allSlots s hs, if_pos (mem_allSlots j)]

/-- The records of a run of turns over distinct slots: no turn touches the table entry of another. -/
theorem raises_connectivity_foldl (f : InFrame) {l : List Slot} (hl : l.Nodup) : ∀ u : State,
    Raises u (l.foldl (fun acc i => connectivityOf f i acc) u)
      ((l.filter fun i => connIn u.params f i != u.conn[i]).map
        fun i => .connectivityChange i (connIn u.params f i)) := by
  induction l with
  | nil => exact Raises.refl
  | cons i l ih =>
    intro u
    obtain ⟨hi, hl⟩ := List.nodup_cons.1 hl
    have hrest : (l.filter fun j => connIn u.params f j != (connectivityOf f i u).conn[j]) =
        l.filter fun j => connIn u.params f j != u.conn[j] :=
      List.filter_congr fun j hj => by
        rw [connectivityOf_conn, if_neg (ne_of_mem_of_not_mem hj hi)]
    have htail := ih hl (connectivityOf f i u)
    rw [connectivityOf_params, hrest] at htail
    have hall := (raises_connectivityOf f i u).trans htail (connectivityOf_params u f i)
    rw [List.filter_cons]
    unfold connChange at hall
    split at hall
    · next h => rwa [if_pos h]
    · next h => rwa [if_neg h]

theorem raises_connectivityStep (f : InFrame) (s : State) :
    Raises s (connectivityStep f s) ((allSlots.filter fun i => connIn s.params f i != s.conn[i]).map
      fun i => .connectivityChange i (connIn s.params f i)) :=
  raises_connectivity_foldl f (by decide) s

theorem connectivityStep_frame (f : InFrame) (s : State) :
    connectivityStep f s =
      { s with
        conn := (connectivityStep f s).conn, ledStatus := (connectivityStep f s).ledStatus
        eventQ := (connectivityStep f s).eventQ, fault := (connectivityStep f s).fault } := by
  refine forSlots_induction s
    (fun u => u = { s with conn := u.conn, ledStatus := u.ledStatus, eventQ := u.eventQ, fault := u.fault }) _
    (fun i u hu => ?_) rfl
  by_cases h : connIn u.params f i = u.conn[i]
  · rw [connectivityOf_same h, hu]
    rfl
  · rw [connectivityOf_changed h, enqueue_frame, hu]
    rfl

/-- One bit per LED: the handset LEDs differ from green, from red and from each other (R91). -/
theorem Params.handset_leds_of_wf {p : Params} (h : p.wf = true) :
    (∀ i : Slot, p.ledHandsetBit[i] ≠ p.ledGreenBit ∧ p.ledHandsetBit[i] ≠ p.ledRedBit) ∧
      ∀ i j : Slot, p.ledHandsetBit[i] = p.ledHandsetBit[j] → i = j := by
  simp only [Params.wf, Bool.and_eq_true] at h
  have hbits : p.ledBits.Nodup := of_decide_eq_true (by tauto)
  simp only [Params.ledBits, List.nodup_cons, List.mem_cons, not_or] at hbits
  obtain ⟨⟨-, hgreen⟩, hred, hnodup⟩ := hbits
  have hmem (i : Slot) : p.ledHandsetBit[i] ∈ p.ledHandsetBit.toList := by simp
  refine ⟨fun i => ⟨ne_of_mem_of_not_mem (hmem i) hgreen, ne_of_mem_of_not_mem (hmem i) hred⟩, fun i j hij => ?_⟩
  have hval : i.val = j.val := (hnodup.getElem_inj_iff (hi := by simp) (hj := by simp)).1 (by simpa using hij)
  exact Fin.ext hval

/-- Settles O42: the turns write one table entry and one handset LED each, and raise one record each. -/
theorem connectivityStepNotifiesChangesInSlotOrder : Obligations.ConnectivityStepNotifiesChangesInSlotOrder := by
  intro s f hwf t
  obtain ⟨hother, hinj⟩ := Params.handset_leds_of_wf hwf
  have hparams (i : Slot) (u : State) (hu : u.params = s.params) : (connectivityOf f i u).params = s.params :=
    (connectivityOf_params u f i).trans hu
  have hled (i : Slot) (b : Fin 8) (u : State) (hu : u.params = s.params) :
      (connectivityOf f i u).ledStatus.getLsbD b.val =
        if b = s.params.ledHandsetBit[i] then (connIn s.params f i ^^ s.params.ledActiveLow)
        else u.ledStatus.getLsbD b.val := by
    rw [connectivityOf_bit, hu]
  have hkept (b : Fin 8) (hb : ∀ i : Slot, s.params.ledHandsetBit[i] ≠ b) :
      t.ledStatus.getLsbD b.val = s.ledStatus.getLsbD b.val :=
    (forSlots_induction s
      (fun u => u.params = s.params ∧ u.ledStatus.getLsbD b.val = s.ledStatus.getLsbD b.val) (connectivityOf f)
      (fun i u ⟨hu, hbit⟩ => ⟨hparams i u hu, by rw [hled i b u hu, if_neg (hb i).symm, hbit]⟩) ⟨rfl, rfl⟩).2
  refine ⟨?conn, ?handsets, hkept _ fun i => (hother i).1, hkept _ fun i => (hother i).2,
    raises_connectivityStep f s, connectivityStep_frame f s⟩
  case conn =>
    exact forSlots_writes (fun u j => u.conn[j]) (connIn s.params f) hparams
      (fun i j u hu => by rw [connectivityOf_conn, hu]) rfl
  case handsets =>
    refine forSlots_writes (fun u j => u.ledStatus.getLsbD s.params.ledHandsetBit[j].val)
      (fun i => connIn s.params f i ^^ s.params.ledActiveLow) hparams (fun i j u hu => ?_) rfl
    rw [hled i _ u hu]
    exact if_congr ⟨hinj j i, fun e => e ▸ rfl⟩ rfl rfl

end Sys2Proof.Machine
end

section
/-! The grace timer's expiry, the update check and the buttons (O40, O50, O51). -/

namespace Sys2Proof.Machine

variable {s : State}

/-! The finish of the race (R227). -/

theorem execTimerTick_of_not_due (h : s.finishPending = false ∨ s.clock.toNat < s.finishDeadline.toNat) :
    exec .timerTick s = .next s := by
  have hdue : finishDue s = false := by
    rcases h with hoff | hearly
    · simp [finishDue, hoff]
    · simp [finishDue, BitVec.le_def, Nat.not_le.2 hearly]
  exact congrArg Host.Outcome.next (if_neg (by simp [hdue]))

theorem execTimerTick_of_due (hon : s.finishPending = true) (hdue : s.finishDeadline.toNat ≤ s.clock.toNat) :
    exec .timerTick s =
      .next (if s.finishedCarCount = s.activeCarCount then finishRace { s with finishPending := false }
        else { s with finishPending := false }) := by
  have hfire : finishDue s = true := by simp [finishDue, hon, BitVec.le_def, hdue]
  have hrun : exec .timerTick s = .next (if allFinished s then finishRace { s with finishPending := false }
      else { s with finishPending := false }) := congrArg Host.Outcome.next (if_pos hfire)
  simpa only [allFinished, beq_iff_eq] using hrun

/-- The drive bytes of a move to STOPPED, or of none (R170, R174). -/
theorem drive_setState_stopped (s : State) :
    if s.gameState = .stopped then (setState .stopped s).drive = s.drive else PowerCut s (setState .stopped s) := by
  have hdrive := setState_drive .stopped s
  split
  · next h => simpa [h] using hdrive
  · next h => exact (powerCut_cutPower s).of_drive (by simpa [h] using hdrive)

theorem setState_stopped_cars (s : State) : (setState .stopped s).cars = s.cars := by rw [setState_stopped_frame]

/-- A ranking reported by one record (R223, R227). -/
theorem enqueue_rank_frame (e : Event) (s : State) :
    enqueue e (rank s) =
      { s with
        positions := (rank s).positions, eventQ := (enqueue e (rank s)).eventQ
        fault := (enqueue e (rank s)).fault } := by
  rw [enqueue_frame]
  rfl

theorem finishRace_positions (s : State) : (finishRace s).positions = (rank (setState .stopped s)).positions :=
  enqueue_positions _ _

theorem ranked_finishRace (s : State) : Ranked s.cars (finishRace s).positions := by
  rw [finishRace_positions, ← setState_stopped_cars]
  exact ranked_rank (setState .stopped s)

/-- The race is stopped first, and the final ranking is reported after the move (R227, D50). -/
theorem raises_finishRace (s : State) :
    Raises s (finishRace s) (changeTo s .stopped ++
      [.gameFinished s.gameTime ((finishRace s).positions.toList.filter fun i => s.cars[i].active)]) := by
  let u := rank (setState .stopped s)
  have hreport : report u = (finishRace s).positions.toList.filter fun i => s.cars[i].active := by
    simp [u, finishRace_positions, report, setState_stopped_cars]
  have hstop : Raises s u (changeTo s .stopped) := (raises_setState s .stopped).congr rfl rfl rfl rfl rfl
  have hevent : Raises u (finishRace s) [.gameFinished u.gameTime (report u)] := raises_enqueue u _
  rw [hreport, show u.gameTime = s.gameTime from setState_gameTime s .stopped] at hevent
  exact hstop.trans hevent (setState_params s .stopped)

theorem finishRace_frame (s : State) :
    finishRace s =
      { s with
        gameState := .stopped, positions := (finishRace s).positions, drive := (setState .stopped s).drive
        ledPhase := (setState .stopped s).ledPhase, eventQ := (finishRace s).eventQ
        fault := (finishRace s).fault } := by
  rw [finishRace_positions]
  unfold finishRace
  dsimp only
  rw [enqueue_rank_frame, setState_stopped_frame]

/-- Settles O40: a due timer is cleared, and with equal counts the race finishes. -/
theorem timerTickFinishesTheRaceWhenDue : Obligations.TimerTickFinishesTheRaceWhenDue := by
  intro s
  by_cases hdue : s.finishPending = true ∧ s.finishDeadline.toNat ≤ s.clock.toNat
  · obtain ⟨hon, hlate⟩ := hdue
    refine ⟨_, execTimerTick_of_due hon hlate, fun hnot => ?_, fun _ => ⟨fun hcount => if_neg hcount, fun hcount => ?_⟩⟩
    · rcases hnot with hoff | hearly
      · simp [hon] at hoff
      · omega
    · rw [if_pos hcount]
      let u : State := { s with finishPending := false }
      have hdrive : (finishRace u).drive = (setState .stopped u).drive := by rw [finishRace_frame]
      have hphase : (finishRace u).ledPhase = (setState .stopped u).ledPhase := by rw [finishRace_frame]
      refine ⟨ranked_finishRace u, ?drive, ?phase, ?raised, ?frame⟩
      case drive =>
        have hcut := drive_setState_stopped u
        unfold PowerCut
        rw [hdrive]
        exact hcut
      case phase =>
        rw [hphase, setState_ledPhase]
        simp [u]
      case raised => exact (raises_finishRace u).congr rfl rfl rfl rfl rfl
      case frame =>
        rw [hdrive, hphase]
        exact finishRace_frame u
  · have hnot : s.finishPending = false ∨ s.clock.toNat < s.finishDeadline.toNat := by
      rw [not_and_or, Bool.not_eq_true, not_le] at hdue
      exact hdue
    exact ⟨s, execTimerTick_of_not_due hnot, fun _ => rfl, fun h => absurd h hdue⟩

/-! `update_check` (R223). -/

theorem gameTimeRuns_iff : gameTimeRuns s = true ↔ s.gameState = .race ∨ s.gameState = .training := by
  simp [gameTimeRuns]

theorem updateCheck_of_quiet {now : Time}
    (h : now.toNat ≤ s.nextUpdate.toNat ∨ (s.gameState ≠ .race ∧ s.gameState ≠ .training)) : updateCheck now s = s := by
  refine if_neg fun ⟨hruns, hpast⟩ => ?_
  rcases h with hearly | ⟨hrace, htraining⟩
  · exact absurd (BitVec.lt_def.1 hpast) (Nat.not_lt.2 hearly)
  · exact (gameTimeRuns_iff.1 hruns).elim hrace htraining

theorem updateCheck_of_past {now : Time} (hpast : s.nextUpdate.toNat < now.toNat)
    (hruns : s.gameState = .race ∨ s.gameState = .training) :
    updateCheck now s =
      { enqueue (.gameUpdate s.gameTime (report (rank s))) (rank s) with
        nextUpdate := s.nextUpdate + s.params.updateUs } := by
  have hdue : gameTimeRuns s = true ∧ now > s.nextUpdate := ⟨gameTimeRuns_iff.2 hruns, BitVec.lt_def.2 hpast⟩
  simp only [updateCheck, if_pos hdue, enqueue_nextUpdate, enqueue_params]
  rfl

theorem raises_updateCheck_of_past {now : Time} (hpast : s.nextUpdate.toNat < now.toNat)
    (hruns : s.gameState = .race ∨ s.gameState = .training) :
    Raises s (updateCheck now s) [.gameUpdate s.gameTime (report (rank s))] := by
  rw [updateCheck_of_past hpast hruns]
  exact (raises_enqueue (rank s) _).congr rfl rfl rfl rfl rfl

/-- Settles O50: the update is one ranking, its report and one step of the boundary. -/
theorem gameUpdateAdvancesTheBoundaryByOneStep : Obligations.GameUpdateAdvancesTheBoundaryByOneStep := by
  intro s now t
  refine ⟨updateCheck_of_quiet, fun ⟨hpast, hruns⟩ => ?_⟩
  have ht : t = _ := updateCheck_of_past hpast hruns
  have hpos : t.positions = (rank s).positions := by
    rw [ht]
    exact enqueue_positions _ _
  have hraised : Raises s t [.gameUpdate s.gameTime (report (rank s))] := raises_updateCheck_of_past hpast hruns
  rw [hpos]
  refine ⟨ranked_rank s, by rw [ht], hraised, ?_⟩
  rw [ht, enqueue_rank_frame]

/-! `button_step` (R224). -/

theorem pressedIn_eq (p : Params) (f : InFrame) (b : Button) :
    pressedIn p f (buttonCode b) = !f[13].getLsbD p.btnBit[buttonCode b].val := rfl

/-- The buttons in front of `b` in the search are those of a higher priority (R102). -/
theorem buttonPriority_split (b : Button) :
    buttonPriority = buttonPriority.take (buttonCode b).val ++ b :: buttonPriority.drop ((buttonCode b).val + 1) ∧
      ∀ b' ∈ buttonPriority.take (buttonCode b).val, buttonCode b' < buttonCode b := by
  cases b <;> decide

/-- Every button of a higher priority than `b` being up, `b` is the first one found pressed (R102, R224). -/
theorem find?_buttonPriority {pressed : Button → Bool} {b : Button} (hb : pressed b = true)
    (hhigher : ∀ b' : Button, buttonCode b' < buttonCode b → pressed b' = false) :
    buttonPriority.find? pressed = some b := by
  obtain ⟨hsplit, hfront⟩ := buttonPriority_split b
  refine List.find?_eq_some_iff_append.2 ⟨hb, _, _, hsplit, fun b' hb' => ?_⟩
  rw [hhigher b' (hfront b' hb'), Bool.not_false]

theorem buttonStep_of_quiet {f g : InFrame}
    (h : f[13] = g[13] ∨ ∀ b : Fin 6, f[13].getLsbD s.params.btnBit[b].val = true) : buttonStep f g s = s := by
  unfold buttonStep
  split
  · rfl
  · next hne =>
    have hup (b : Button) : pressedIn s.params f (buttonCode b) = false := by
      rw [pressedIn_eq, h.resolve_left hne, Bool.not_true]
    have hnone : (buttonPriority.find? fun b => pressedIn s.params f (buttonCode b)) = none := by simp [hup]
    rw [hnone]

theorem buttonStep_of_pressed {f g : InFrame} {b : Button} (hne : f[13] ≠ g[13])
    (hb : (buttonPriority.find? fun b => pressedIn s.params f (buttonCode b)) = some b) :
    buttonStep f g s = enqueue (.button b) s := by
  have hne' : buttonsIn f ≠ buttonsIn g := hne
  rw [buttonStep, if_neg hne', hb]

/-- The button step raises at most one record, of a button (R224). -/
theorem buttonStep_cases (f g : InFrame) (s : State) :
    buttonStep f g s = s ∨ ∃ b, buttonStep f g s = enqueue (.button b) s := by
  unfold buttonStep
  split
  · exact .inl rfl
  · split
    · next b _ => exact .inr ⟨b, rfl⟩
    · exact .inl rfl

/-- Settles O51: the buttons are searched highest priority first. -/
theorem buttonStepReportsTheHighestPressed : Obligations.ButtonStepReportsTheHighestPressed := by
  intro s f g t
  refine ⟨buttonStep_of_quiet, fun b hne hdown hhigher => ?_, ?_⟩
  · have hfound := find?_buttonPriority (pressed := fun b => pressedIn s.params f (buttonCode b)) (b := b)
      (by rw [pressedIn_eq, hdown, Bool.not_false]) fun b' hb' => by rw [pressedIn_eq, hhigher b' hb', Bool.not_true]
    have ht : t = enqueue (.button b) s := buttonStep_of_pressed hne hfound
    rw [ht]
    exact raises_enqueue s _
  · rcases buttonStep_cases f g s with hsame | ⟨b, hevent⟩
    · simp only [t, hsame]
    · simp only [t, hevent]
      exact enqueue_frame _ s

end Sys2Proof.Machine
end

section
/-! Lap bookkeeping (O48, O49): the crossing is recorded, and then the lap is counted or the car finishes. -/

namespace Sys2Proof.Machine

variable {s : State} {k : Slot} {now : Time}

/-! Writing one car's record. -/

theorem updateCar_updateCar (k : Slot) (f g : CarState → CarState) (s : State) :
    updateCar k g (updateCar k f s) = updateCar k (g ∘ f) s := by
  simp [updateCar]

theorem updateCar_congr {f g : CarState → CarState} (h : f s.cars[k] = g s.cars[k]) :
    updateCar k f s = updateCar k g s := by
  simp only [updateCar, h]

theorem updateCar_self (k : Slot) (f : CarState → CarState) (s : State) : (updateCar k f s).cars[k] = f s.cars[k] := by
  rw [updateCar_get, if_pos rfl]

/-! What a crossing records (R218, R219). -/

/-- The lap time a crossing at `now` completes (R218). -/
def lapTimeAt (now : Time) (car : CarState) : Time := now - car.lastCrossingTime

/-- The record of a car after a crossing at `now`, before the lap is counted (R218, R219). -/
def crossedCar (now : Time) (car : CarState) : CarState :=
  { car with
    lastCrossingTime := now
    bestLapTime := if car.laps ≠ 0 ∧ isRecord car (lapTimeAt now car) = true then lapTimeAt now car else car.bestLapTime
    startTime := if car.laps = 0 then now else car.startTime }

/-- The record a crossing raises: none for the first one, which completes no lap (R218). -/
def lapRecords (k : Slot) (now : Time) (car : CarState) : List Event :=
  if car.laps = 0 then [] else [.lap k car.laps (lapTimeAt now car) (isRecord car (lapTimeAt now car))]

theorem isRecord_eq (car : CarState) (lapTime : Time) :
    isRecord car lapTime = decide (car.bestLapTime = 0 ∨ lapTime.toNat < car.bestLapTime.toNat) := by
  simp [isRecord, BitVec.lt_def]

theorem crossedCar_of_first {car : CarState} (h : car.laps = 0) :
    crossedCar now car = { car with lastCrossingTime := now, startTime := now } := by
  simp [crossedCar, h]

theorem crossedCar_of_lap {car : CarState} (h : car.laps ≠ 0) :
    crossedCar now car =
      if isRecord car (lapTimeAt now car) then { car with lastCrossingTime := now, bestLapTime := lapTimeAt now car }
      else { car with lastCrossingTime := now } := by
  simp only [crossedCar, h, ne_eq, not_false_eq_true, true_and, if_false]
  split <;> rfl

theorem recordCrossing_of_first (h : s.cars[k].laps = 0) : recordCrossing k now s = updateCar k (crossedCar now) s := by
  have hpos : ¬ s.cars[k].laps > 0 := by bv_omega
  unfold recordCrossing
  simp only [updateCar_self, updateCar_updateCar]
  rw [if_neg hpos]
  exact updateCar_congr (crossedCar_of_first h).symm

theorem recordCrossing_of_lap (h : s.cars[k].laps ≠ 0) :
    recordCrossing k now s =
      enqueue (.lap k s.cars[k].laps (lapTimeAt now s.cars[k]) (isRecord s.cars[k] (lapTimeAt now s.cars[k])))
        (updateCar k (crossedCar now) s) := by
  have hpos : s.cars[k].laps > 0 := by bv_omega
  have hcrossed := crossedCar_of_lap (now := now) h
  have hrecord : isRecord { s.cars[k] with lastCrossingTime := now } (now - s.cars[k].lastCrossingTime) =
      isRecord s.cars[k] (lapTimeAt now s.cars[k]) := rfl
  unfold recordCrossing
  simp only [updateCar_self, updateCar_updateCar, hrecord]
  rw [if_pos hpos]
  split
  · next hbest =>
    rw [updateCar_self]
    exact congrArg (enqueue _) (updateCar_congr (hcrossed.trans (if_pos hbest)).symm)
  · next hslower =>
    rw [updateCar_self]
    exact congrArg (enqueue _) (updateCar_congr (hcrossed.trans (if_neg hslower)).symm)

theorem raises_recordCrossing (k : Slot) (now : Time) (s : State) :
    Raises s (recordCrossing k now s) (lapRecords k now s.cars[k]) := by
  unfold lapRecords
  split
  · next h =>
    rw [recordCrossing_of_first h]
    exact (Raises.refl s).congr rfl rfl rfl rfl rfl
  · next h =>
    rw [recordCrossing_of_lap h]
    exact (raises_enqueue (updateCar k (crossedCar now) s) _).congr rfl rfl rfl rfl rfl

theorem recordCrossing_frame (k : Slot) (now : Time) (s : State) :
    recordCrossing k now s =
      { updateCar k (crossedCar now) s with
        eventQ := (recordCrossing k now s).eventQ, fault := (recordCrossing k now s).fault } := by
  by_cases h : s.cars[k].laps = 0
  · rw [recordCrossing_of_first h]
  · rw [recordCrossing_of_lap h, enqueue_frame]

/-! Counting the lap, or the finish (R220, R221). -/

theorem countLap_of_lap (h : s.gameState ≠ .race ∨ s.cars[k].laps.toNat + 1 < s.targetLaps.toNat) :
    countLap k s = updateCar k (fun car => { car with laps := car.laps + 1 }) s := by
  refine if_neg fun ⟨hrace, htarget⟩ => ?_
  have := of_decide_eq_true htarget
  rcases h with h | h
  · exact h hrace
  · omega

/-- The finish marked and counted, before the timer is considered (R220). -/
def finishCar (k : Slot) (s : State) : State :=
  { updateCar k (fun car => { car with finished := true }) s with finishedCarCount := s.finishedCarCount + 1 }

theorem countLap_of_finish (hrace : s.gameState = .race) (htarget : s.targetLaps.toNat ≤ s.cars[k].laps.toNat + 1) :
    countLap k s =
      if s.finishedCarCount + 1 = s.activeCarCount then scheduleFinish (finishCar k s) else finishCar k s := by
  have hfinish : s.gameState = .race ∧ reachedTarget s k = true := ⟨hrace, decide_eq_true htarget⟩
  rw [countLap, if_pos hfinish]
  exact if_congr beq_iff_eq rfl rfl

theorem raises_lapBookkeeping (k : Slot) (now : Time) (s : State) :
    Raises s (lapBookkeeping k now s) (lapRecords k now s.cars[k]) := by
  rw [lapBookkeeping_eq]
  exact (raises_recordCrossing k now s).congr rfl rfl rfl (countLap_eventQ _ k) (countLap_fault _ k)

theorem lapBookkeeping_of_lap (h : s.gameState ≠ .race ∨ s.cars[k].laps.toNat + 1 < s.targetLaps.toNat) :
    lapBookkeeping k now s =
      { updateCar k (fun car => { crossedCar now car with laps := car.laps + 1 }) s with
        eventQ := (lapBookkeeping k now s).eventQ, fault := (lapBookkeeping k now s).fault } := by
  have hsame : SameRace s (recordCrossing k now s) := sameRace_recordCrossing k now
  have hcount : lapBookkeeping k now s = _ := countLap_of_lap (s := recordCrossing k now s) (k := k)
    (by rwa [hsame.gameState, hsame.laps, hsame.targetLaps])
  rw [hcount, recordCrossing_frame]
  simp only [updateCar, Vector.set_set, Fin.getElem_fin, Vector.getElem_set_self]
  rfl

theorem lapBookkeeping_of_finish (hrace : s.gameState = .race)
    (htarget : s.targetLaps.toNat ≤ s.cars[k].laps.toNat + 1) :
    lapBookkeeping k now s =
      { updateCar k (fun car => { crossedCar now car with finished := true }) s with
        finishedCarCount := s.finishedCarCount + 1
        finishPending := if s.finishedCarCount + 1 = s.activeCarCount then true else s.finishPending
        finishDeadline :=
          if s.finishedCarCount + 1 = s.activeCarCount then s.clock + s.params.graceUs else s.finishDeadline
        eventQ := (lapBookkeeping k now s).eventQ, fault := (lapBookkeeping k now s).fault } := by
  have hsame : SameRace s (recordCrossing k now s) := sameRace_recordCrossing k now
  have hcount : lapBookkeeping k now s = _ := countLap_of_finish (s := recordCrossing k now s) (k := k)
    (by rwa [hsame.gameState]) (by rwa [hsame.laps, hsame.targetLaps])
  rw [hcount, hsame.finishedCarCount, hsame.activeCarCount, recordCrossing_frame]
  by_cases hlast : s.finishedCarCount + 1 = s.activeCarCount
  · simp only [if_pos hlast, finishCar, scheduleFinish, updateCar, Vector.set_set, Fin.getElem_fin,
      Vector.getElem_set_self]
  · simp only [if_neg hlast, finishCar, updateCar, Vector.set_set, Fin.getElem_fin, Vector.getElem_set_self]

/-- Settles O48: below the target the lap is counted on the record the crossing left. -/
theorem lapIsCountedAndReported : Obligations.LapIsCountedAndReported := by
  intro s k now h t lapTime record
  have ht : t = _ := lapBookkeeping_of_lap (now := now) h
  have hcars : t.cars = (updateCar k (fun car => { crossedCar now car with laps := car.laps + 1 }) s).cars := by rw [ht]
  have hrecord : isRecord s.cars[k] lapTime = record := isRecord_eq _ _
  refine ⟨?car, fun j hj => ?others, ?raised, ?frame⟩
  case car =>
    simp only [hcars, updateCar_self, ← hrecord]
    rfl
  case others => simp only [hcars, updateCar_get, if_neg hj]
  case raised =>
    rw [← hrecord]
    exact raises_lapBookkeeping k now s
  case frame =>
    rw [hcars]
    exact ht

/-- Settles O49: at the target the finish is marked on the record the crossing left; the counts decide on the timer. -/
theorem finishIsCountedAndScheduled : Obligations.FinishIsCountedAndScheduled := by
  intro s k now hrace htarget t lapTime record
  have ht : t = _ := lapBookkeeping_of_finish (now := now) hrace htarget
  have hcars : t.cars = (updateCar k (fun car => { crossedCar now car with finished := true }) s).cars := by rw [ht]
  have hcount : t.finishedCarCount = s.finishedCarCount + 1 := by rw [ht]
  have hpending : t.finishPending = if t.finishedCarCount = s.activeCarCount then true else s.finishPending := by
    rw [hcount, ht]
  have hdeadline : t.finishDeadline =
      if t.finishedCarCount = s.activeCarCount then s.clock + s.params.graceUs else s.finishDeadline := by
    rw [hcount, ht]
  have hrecord : isRecord s.cars[k] lapTime = record := isRecord_eq _ _
  refine ⟨?car, fun j hj => ?others, hcount, ?raised, fun hlast => ?last, fun hmore => ?more, ?frame⟩
  case car =>
    simp only [hcars, updateCar_self, ← hrecord]
    rfl
  case others => simp only [hcars, updateCar_get, if_neg hj]
  case raised =>
    rw [← hrecord]
    exact raises_lapBookkeeping k now s
  case last => exact ⟨hpending.trans (if_pos hlast), hdeadline.trans (if_pos hlast)⟩
  case more => exact ⟨hpending.trans (if_neg hmore), hdeadline.trans (if_neg hmore)⟩
  case frame =>
    rw [hpending, hdeadline, hcars, hcount]
    exact ht

end Sys2Proof.Machine
end

section
/-! Crossings (O46, O47) and the event order of a frame (O52). -/

namespace Sys2Proof.Machine

variable {s : State} {f g : InFrame} {k : Slot} {now : Time}

/-! The slot a crossing names, and the game time (R84, R216). -/

theorem carIn_toNat (f : InFrame) : (carIn f).toNat = f[8].toNat % 8 := by simp [carIn]

theorem crossingSlot_eq_some_iff : crossingSlot (carIn f) = some k ↔ f[8].toNat % 8 = k.val + 1 := by
  have hk := k.isLt
  rw [← carIn_toNat]
  unfold crossingSlot
  split
  · simp only [Option.some.injEq, Fin.ext_iff]
    omega
  · simp only [reduceCtorEq, false_iff]
    omega

theorem setGameTime_eq (now : Time) (s : State) :
    setGameTime now s = if s.gameState = .race ∨ s.gameState = .training then { s with gameTime := now } else s :=
  if_congr gameTimeRuns_iff rfl rfl

theorem setGameTime_of_runs (h : s.gameState = .race ∨ s.gameState = .training) :
    setGameTime now s = { s with gameTime := now } := (setGameTime_eq now s).trans (if_pos h)

theorem setGameTime_of_stands (h : s.gameState ≠ .race ∧ s.gameState ≠ .training) : setGameTime now s = s :=
  (setGameTime_eq now s).trans (if_neg (not_or.2 h))

@[simp] theorem setGameTime_cars (now : Time) (s : State) : (setGameTime now s).cars = s.cars := by
  unfold setGameTime
  split <;> rfl

@[simp] theorem setGameTime_params (now : Time) (s : State) : (setGameTime now s).params = s.params := by
  unfold setGameTime
  split <;> rfl

@[simp] theorem setGameTime_finishedCarCount (now : Time) (s : State) :
    (setGameTime now s).finishedCarCount = s.finishedCarCount := by
  unfold setGameTime
  split <;> rfl

theorem raises_setGameTime (now : Time) (s : State) : Raises s (setGameTime now s) [] := by
  unfold setGameTime
  split <;> exact (Raises.refl s).congr rfl rfl rfl rfl rfl

/-! One crossing (R217). -/

theorem crossingCounts_iff :
    crossingCounts s k = true ↔
      s.gameState = .training ∨ (s.gameState = .race ∧ s.cars[k].active = true ∧ s.cars[k].finished = false) := by
  simp [crossingCounts, and_assoc]

theorem crossing_of_counts
    (h : s.gameState = .training ∨ (s.gameState = .race ∧ s.cars[k].active = true ∧ s.cars[k].finished = false)) :
    crossing k now s = lapBookkeeping k now s := if_pos (crossingCounts_iff.2 h)

theorem crossing_of_grid (h : s.gameState = .starting ∨ s.gameState = .countdown) :
    crossing k now s = falseStart k s := by
  have hcounts : ¬ crossingCounts s k = true := by
    rw [crossingCounts_iff]
    rcases h with h | h <;> simp [h]
  rw [crossing, if_neg hcounts, if_pos h]

theorem crossing_of_uncounted (hgrid : ¬ (s.gameState = .starting ∨ s.gameState = .countdown))
    (h : ¬ (s.gameState = .training ∨
      (s.gameState = .race ∧ s.cars[k].active = true ∧ s.cars[k].finished = false))) :
    crossing k now s = s := by
  rw [crossing, if_neg (mt crossingCounts_iff.1 h), if_neg hgrid]

theorem raises_falseStart (h : s.gameState ≠ .stopped) :
    Raises s (falseStart k s) [.falseStart k, .stateChange .stopped] := by
  have hne : (enqueue (.falseStart k) s).gameState ≠ .stopped := by rwa [enqueue_gameState]
  exact (raises_enqueue s _).trans (raises_setState_of_ne hne) (enqueue_params s _)

theorem falseStart_frame (h : s.gameState ≠ .stopped) :
    falseStart k s =
      { s with
        gameState := .stopped, ledPhase := .cycle1, drive := (cutPower s).drive
        eventQ := (falseStart k s).eventQ, fault := (falseStart k s).fault } := by
  have hne : (enqueue (.falseStart k) s).gameState ≠ .stopped := by rwa [enqueue_gameState]
  have hcut : (cutPower (enqueue (.falseStart k) s)).drive = (cutPower s).drive := by
    simp only [cutPower_eq, enqueue_drive, withDrive_drive]
  unfold falseStart
  rw [setState_eq hne]
  simp only [reduceCtorEq, if_false, if_true, hcut]
  rw [enqueue_frame]
  rfl

/-! The crossing step (R216). -/

theorem crossingStep_of_same (h : lapTimer s.params f = lapTimer s.params g) : crossingStep f g s = s := if_pos h

theorem crossingStep_of_slot (h : lapTimer s.params f ≠ lapTimer s.params g) (hk : f[8].toNat % 8 = k.val + 1) :
    crossingStep f g s =
      updateCheck (ticksToUs s.params (lapTimer s.params f))
        (crossing k (ticksToUs s.params (lapTimer s.params f))
          (setGameTime (ticksToUs s.params (lapTimer s.params f)) s)) := by
  rw [crossingStep_eq, if_neg h, crossingSlot_eq_some_iff.2 hk]
  rfl

/-- Settles O46: the false start comes from the crossing, and in STOPPED no update follows. -/
theorem falseStartStopsTheRace : Obligations.FalseStartStopsTheRace := by
  intro s f g k hgrid htimer hk t
  have hstopped : s.gameState ≠ .stopped := by rcases hgrid with h | h <;> simp [h]
  have hstands : s.gameState ≠ .race ∧ s.gameState ≠ .training := by rcases hgrid with h | h <;> simp [h]
  have ht : t = falseStart k s := by
    calc t = _ := crossingStep_of_slot htimer hk
      _ = updateCheck _ (falseStart k s) := by rw [setGameTime_of_stands hstands, crossing_of_grid hgrid]
      _ = falseStart k s := updateCheck_of_quiet (.inr (by simp [falseStart]))
  rw [ht]
  exact ⟨raises_falseStart hstopped, falseStart_frame hstopped⟩

/-- The records of an update check: at most one (R223). -/
theorem raises_updateCheck (now : Time) (s : State) :
    ∃ updates : List Event, Raises s (updateCheck now s) updates ∧
      (updates = [] ∨ ∃ time r, updates = [.gameUpdate time r]) := by
  unfold updateCheck
  split
  · exact ⟨_, (raises_enqueue (rank s) _).congr rfl rfl rfl rfl rfl, .inr ⟨_, _, rfl⟩⟩
  · exact ⟨[], .refl s, .inl rfl⟩

/-- A crossing that counts for no car and is no false start leaves the game time and the update check (R217). -/
theorem crossingStep_of_uncounted (h : lapTimer s.params f ≠ lapTimer s.params g)
    (hnone : f[8].toNat % 8 = 0 ∨ f[8].toNat % 8 = 7 ∨ s.gameState = .stopped ∨
      (s.gameState = .race ∧ ∀ k : Slot, f[8].toNat % 8 = k.val + 1 →
        s.cars[k].active = false ∨ s.cars[k].finished = true)) :
    crossingStep f g s =
      updateCheck (ticksToUs s.params (lapTimer s.params f))
        (setGameTime (ticksToUs s.params (lapTimer s.params f)) s) := by
  rw [crossingStep_eq, if_neg h]
  generalize ticksToUs s.params (lapTimer s.params f) = now
  cases hslot : crossingSlot (carIn f) with
  | none => rfl
  | some k =>
    have hk : f[8].toNat % 8 = k.val + 1 := crossingSlot_eq_some_iff.1 hslot
    have hlt := k.isLt
    have hcrossing : crossing k now (setGameTime now s) = setGameTime now s := by
      rcases hnone with h0 | h7 | hstopped | ⟨hrace, hout⟩
      · omega
      · omega
      · exact crossing_of_uncounted (by simp [hstopped]) (by simp [hstopped])
      · refine crossing_of_uncounted (by simp [hrace]) ?_
        rw [setGameTime_gameState, setGameTime_cars]
        rcases hout k hk with h | h <;> simp only [hrace, h] <;> simp
    exact congrArg (updateCheck now) hcrossing

theorem crossingStep_gameTime (h : lapTimer s.params f ≠ lapTimer s.params g) :
    (crossingStep f g s).gameTime = (setGameTime (ticksToUs s.params (lapTimer s.params f)) s).gameTime := by
  rw [crossingStep_eq, if_neg h]
  cases crossingSlot (carIn f) with
  | none => exact updateCheck_gameTime _ _
  | some k => exact (updateCheck_gameTime _ _).trans (crossing_gameTime _ _ _)

/-- Settles O47, by what the crossing names and whether it counts. -/
theorem onlyACountedCrossingTouchesACar : Obligations.OnlyACountedCrossingTouchesACar := by
  intro s f g t now
  refine ⟨crossingStep_of_same, fun htimer => ⟨fun hruns => ?runs, fun hstands => ?stands, fun k hk hcounts => ?counted,
    fun hnone => ?uncounted⟩⟩
  case runs => exact (crossingStep_gameTime htimer).trans (by rw [setGameTime_of_runs hruns])
  case stands => exact (crossingStep_gameTime htimer).trans (by rw [setGameTime_of_stands hstands])
  case counted =>
    have hruns : s.gameState = .race ∨ s.gameState = .training := hcounts.symm.imp_left And.left
    calc t = updateCheck now (crossing k now (setGameTime now s)) := crossingStep_of_slot htimer hk
      _ = _ := by
        rw [setGameTime_of_runs hruns]
        exact congrArg (updateCheck now) (crossing_of_counts hcounts)
  case uncounted =>
    have ht : t = updateCheck now (setGameTime now s) := crossingStep_of_uncounted htimer hnone
    obtain ⟨updates, hraised, hone⟩ := raises_updateCheck now (setGameTime now s)
    have hall := (raises_setGameTime now s).trans hraised (setGameTime_params now s)
    rw [ht]
    exact ⟨congrArg (updateCheck now) (setGameTime_eq now s), by simp, by simp, by simp, updates, hall, hone⟩

/-! The records of a frame (R229). -/

/-- What a crossing may raise: nothing, a lap, or a false start with its state change (R217). -/
def CrossingRecords (crossed : List Event) : Prop :=
  crossed = [] ∨ (∃ k n lapTime r, crossed = [.lap k n lapTime r]) ∨
    ∃ k, crossed = [.falseStart k, .stateChange .stopped]

theorem crossingRecords_lapRecords (k : Slot) (now : Time) (car : CarState) :
    CrossingRecords (lapRecords k now car) := by
  unfold lapRecords
  split
  · exact .inl rfl
  · exact .inr (.inl ⟨_, _, _, _, rfl⟩)

theorem raises_crossing (k : Slot) (now : Time) (s : State) :
    ∃ crossed, Raises s (crossing k now s) crossed ∧ CrossingRecords crossed := by
  unfold crossing
  split
  · exact ⟨_, raises_lapBookkeeping k now s, crossingRecords_lapRecords k now _⟩
  · split
    · next hgrid =>
      have hstopped : s.gameState ≠ .stopped := by rcases hgrid with h | h <;> simp [h]
      exact ⟨_, raises_falseStart hstopped, .inr (.inr ⟨k, rfl⟩)⟩
    · exact ⟨[], .refl s, .inl rfl⟩

theorem raises_crossingStep (f g : InFrame) (s : State) :
    ∃ crossed updates, Raises s (crossingStep f g s) (crossed ++ updates) ∧ CrossingRecords crossed ∧
      (updates = [] ∨ ∃ time r, updates = [.gameUpdate time r]) := by
  rw [crossingStep_eq]
  split
  · exact ⟨[], [], .refl s, .inl rfl, .inl rfl⟩
  · generalize ticksToUs s.params (lapTimer s.params f) = now
    have htime := raises_setGameTime now s
    cases crossingSlot (carIn f) with
    | none =>
      obtain ⟨updates, hraised, hone⟩ := raises_updateCheck now (setGameTime now s)
      exact ⟨[], updates, htime.trans hraised (setGameTime_params now s), .inl rfl, hone⟩
    | some k =>
      let u := crossing k now (setGameTime now s)
      obtain ⟨crossed, hcrossed, hkind⟩ := raises_crossing k now (setGameTime now s)
      obtain ⟨updates, hraised, hone⟩ := raises_updateCheck now u
      have hto : Raises s u crossed := htime.trans hcrossed (setGameTime_params now s)
      exact ⟨crossed, updates, hto.trans hraised (by simp [u]), hkind, hone⟩

theorem raises_buttonStep (f g : InFrame) (s : State) :
    ∃ buttons, Raises s (buttonStep f g s) buttons ∧ (buttons = [] ∨ ∃ b, buttons = [.button b]) := by
  rcases buttonStep_cases f g s with hsame | ⟨b, hevent⟩
  · exact ⟨[], hsame.symm ▸ Raises.refl s, .inl rfl⟩
  · exact ⟨_, hevent.symm ▸ raises_enqueue s _, .inr ⟨b, rfl⟩⟩

theorem raises_bindingStep (s : State) :
    ∃ crossed, Raises s (bindingStep s) crossed ∧ (crossed = [] ∨ crossed = [.stateChange .training]) := by
  unfold bindingStep
  split
  · exact ⟨[], (Raises.refl s).congr rfl rfl rfl rfl rfl, .inl rfl⟩
  · refine ⟨changeTo s .training, (raises_setState s .training).congr rfl rfl rfl rfl rfl, ?_⟩
    unfold changeTo
    split
    · exact .inl rfl
    · exact .inr rfl

theorem onFrame_of_not_binding (h : s.gameState ≠ .binding) (f g : InFrame) :
    onFrame f g s = buttonStep f g (crossingStep f g (driveStep f g (connectivityStep f s))) := if_neg h

theorem raises_driveStep (f g : InFrame) (s : State) : Raises s (driveStep f g s) [] :=
  (Raises.refl s).congr rfl rfl rfl (by simp) (by simp)

/-- Settles O52: the records of the steps, in the order of the steps. -/
theorem frameEventsComeInTheStatedOrder : Obligations.FrameEventsComeInTheStatedOrder := by
  intro s f g
  refine ⟨fun h => onFrame_of_not_binding h f g, ?_⟩
  by_cases h : s.gameState = .binding
  · obtain ⟨crossed, hraised, hkind⟩ := raises_bindingStep s
    refine ⟨[], crossed, [], [], ?_, fun _ => ⟨rfl, rfl, rfl, hkind⟩, fun hne => absurd h hne⟩
    rw [onFrame_of_binding h]
    simpa using hraised
  · let u := driveStep f g (connectivityStep f s)
    have hconns := raises_connectivityStep f s
    have hdriven := hconns.trans (raises_driveStep f g (connectivityStep f s)) (connectivityStep_params s f)
    rw [List.append_nil] at hdriven
    obtain ⟨crossed, updates, hcrossed, hkind, hone⟩ := raises_crossingStep f g u
    obtain ⟨buttons, hbuttons, hbutton⟩ := raises_buttonStep f g (crossingStep f g u)
    have hall := (hdriven.trans hcrossed (by simp)).trans hbuttons (by simp [u])
    refine ⟨_, crossed, updates, buttons, ?_, fun hb => absurd hb h, fun _ => ⟨rfl, hkind, hone, hbutton⟩⟩
    rw [onFrame_of_not_binding h, List.append_assoc _ crossed updates]
    exact hall

end Sys2Proof.Machine
end

section
/-! The watchdog's tick and its reconnect (O39). -/

namespace Sys2Proof.Machine

variable {s : State}

/-- The limit itself is not silence, and the connection is not asked for (R250, D23). -/
theorem reconnectDue_iff :
    reconnectDue s = true ↔ s.linkState = .halted ∨ s.params.silenceUs.toNat < (s.clock - s.lastUpdate).toNat := by
  simp only [reconnectDue, Bool.or_eq_true, decide_eq_true_eq, gt_iff_lt, BitVec.lt_def]

theorem execWatchdogTick_of_due
    (h : s.linkState = .halted ∨ s.params.silenceUs.toNat < (s.clock - s.lastUpdate).toNat) :
    exec .watchdogTick s = .next (reconnect s) :=
  congrArg Host.Outcome.next (if_pos (reconnectDue_iff.2 h))

theorem execWatchdogTick_of_not_due
    (h : ¬ (s.linkState = .halted ∨ s.params.silenceUs.toNat < (s.clock - s.lastUpdate).toNat)) :
    exec .watchdogTick s = .next s :=
  congrArg Host.Outcome.next (if_neg (mt reconnectDue_iff.1 h))

/-- Both records in their order and the cleared cursors, then `enter_write` (R251, D18). -/
theorem reconnect_eq (s : State) :
    reconnect s =
      enterWrite { s with
        diagLog := s.diagLog ++ [.disconnect, .reopen], linkConnected := false, rxCount := 0, txIdx := 0
        lastUpdate := s.clock } := by
  simp only [reconnect, log, List.append_assoc, List.cons_append, List.nil_append]

/-- Settles O39: a due tick is the reconnect, which is `enter_write` on the disconnected state; any other does nothing. -/
theorem watchdogReconnectsOnSilenceOrHalt : Obligations.WatchdogReconnectsOnSilenceOrHalt := by
  intro s
  by_cases hdue : s.linkState = .halted ∨ s.params.silenceUs.toNat < (s.clock - s.lastUpdate).toNat
  · refine ⟨_, execWatchdogTick_of_due hdue, fun ⟨hrunning, hrecent⟩ => ?quiet, fun _ => ?reconnected⟩
    case quiet => exact absurd hdue (not_or.2 ⟨hrunning, Nat.not_lt.2 hrecent⟩)
    case reconnected =>
      rw [reconnect_eq]
      exact ⟨rfl, enterWrite_linkState _, enterWrite_rxCount _, enterWrite_txIdx _, enterWrite_lastUpdate _,
        enterWrite_linkConnected _, fun hidle => enterWrite_of_idle hidle⟩
  · exact ⟨s, execWatchdogTick_of_not_due hdue, fun _ => rfl, fun h => absurd h hdue⟩

end Sys2Proof.Machine
end

section
/-! The outbox (O60): only `enqueue` reads the event queue and its depth, and its caller does not see the outcome. So an
instruction offers the same records and does all else alike whatever the outbox holds. `OutboxBlind` says that of a
procedure; it composes, so each procedure's lemma cites those of its calls. -/

namespace Sys2Proof.Machine

/-- The fields `enqueue` reads and writes: the queue's depth, the queue with its overflow bit (R228), and the other fault
bit (R154). -/
structure Outbox where
  depth : Option Nat
  queue : List Event × Bool
  illegalEvent : Bool

namespace Outbox

/-- The outbox of a state. -/
def of (s : State) : Outbox := ⟨s.params.evqDepth, (s.eventQ, s.fault.evqOverflow), s.fault.illegalEvent⟩

/-- `s` with the outbox `b`. -/
def put (b : Outbox) (s : State) : State :=
  { s with
    params := { s.params with evqDepth := b.depth }, eventQ := b.queue.1
    fault := { evqOverflow := b.queue.2, illegalEvent := b.illegalEvent } }

/-- The outbox after the records `evs` were offered to it in order (R228). -/
def offerAll (b : Outbox) (evs : List Event) : Outbox := { b with queue := evs.foldl (offer b.depth) b.queue }

theorem put_of (s : State) : (of s).put s = s := rfl

theorem offerAll_append (b : Outbox) (evs evs' : List Event) :
    b.offerAll (evs ++ evs') = (b.offerAll evs).offerAll evs' := by
  simp only [offerAll, List.foldl_append]

/-- An unbounded queue takes every record and sets no bit (R228). -/
theorem offerAll_unbounded {b : Outbox} (h : b.depth = none) (evs : List Event) :
    b.offerAll evs = { b with queue := (b.queue.1 ++ evs, b.queue.2) } := by
  have hfold : ∀ q : List Event × Bool, evs.foldl (offer none) q = (q.1 ++ evs, q.2) := by
    induction evs with
    | nil => simp
    | cons e evs ih => simp [offer, ih]
  simp only [offerAll, h, hfold]

/-- The records offered to the outbox of a state are the records raised. -/
theorem raises_of_put {s t : State} {evs : List Event} (h : t = ((of s).offerAll evs).put t) : Raises s t evs := by
  rw [h]
  exact ⟨rfl, rfl⟩

end Outbox

/-- `f` offers each outbox the same records, and all else it does is the same whatever the outbox holds. -/
def OutboxBlind (f : State → State) : Prop :=
  ∀ s, ∃ evs, ∀ b : Outbox, f (b.put s) = (b.offerAll evs).put (f s)

namespace OutboxBlind

variable {f g : State → State}

/-- A procedure that offers nothing. -/
theorem of_quiet (h : ∀ (b : Outbox) s, f (b.put s) = b.put (f s) := by exact fun _ _ => rfl) : OutboxBlind f :=
  fun s => ⟨[], fun b => h b s⟩

/-- A procedure that does nothing. -/
theorem skip : OutboxBlind fun s => s := of_quiet

/-- One procedure after another. -/
theorem comp (hg : OutboxBlind g) (hf : OutboxBlind f) : OutboxBlind fun s => g (f s) := by
  intro s
  obtain ⟨evs, hevs⟩ := hf s
  obtain ⟨evs', hevs'⟩ := hg (f s)
  exact ⟨evs ++ evs', fun b => by simp only [hevs, hevs', Outbox.offerAll_append]⟩

/-- A test that does not read the outbox. -/
theorem ite {c : State → Prop} {dec : DecidablePred c} (hf : OutboxBlind f) (hg : OutboxBlind g)
    (hc : ∀ (b : Outbox) s, c (b.put s) ↔ c s := by exact fun _ _ => Iff.rfl) :
    OutboxBlind fun s => if c s then f s else g s := by
  intro s
  by_cases h : c s
  · simpa only [hc, h, if_true] using hf s
  · simpa only [hc, h, if_false] using hg s

/-- An argument that is not read from the outbox. -/
theorem arg {α : Type} {p : α → State → State} {a : State → α} (hp : ∀ x, OutboxBlind (p x))
    (ha : ∀ (b : Outbox) s, a (b.put s) = a s := by exact fun _ _ => rfl) : OutboxBlind fun s => p (a s) s := by
  intro s
  simpa only [ha] using hp (a s) s

theorem forSlots {turn : Slot → State → State} (h : ∀ i, OutboxBlind (turn i)) : OutboxBlind (forSlots turn) :=
  (h 5).comp ((h 4).comp ((h 3).comp ((h 2).comp ((h 1).comp (h 0)))))

end OutboxBlind

/-! The shared operations. -/

theorem outboxBlind_enqueue (e : Event) : OutboxBlind (enqueue e) := by
  refine fun s => ⟨[e], fun b => ?_⟩
  have hrest : (b.offerAll [e]).put (enqueue e s) = (b.offerAll [e]).put s := by rw [enqueue_frame]; rfl
  rw [hrest]
  obtain ⟨depth, queue, illegalEvent⟩ := b
  cases depth with
  | none => rfl
  | some d =>
    by_cases hfull : d ≤ queue.1.length <;>
      simp [Outbox.put, Outbox.offerAll, enqueue, evqFull, offer, hfull, setEvqOverflow]

theorem outboxBlind_changed (g : GameState) : OutboxBlind (changed g) := (outboxBlind_enqueue _).comp .of_quiet

/-- Which entry effects follow the event is the target's matter alone (R170). -/
theorem outboxBlind_setState (g : GameState) : OutboxBlind (setState g) := by
  have hreset : OutboxBlind fun s => if entryResetsRaceData g then resetRaceData s else s := .ite .of_quiet .skip
  have hled : OutboxBlind fun s => if g = .race then s else requestLedReset s := .ite .skip .of_quiet
  have hcut : OutboxBlind fun s => if g = .stopped then cutPower s else s := .ite .of_quiet .skip
  exact .ite (c := fun s => g = s.gameState) .skip (hcut.comp (hreset.comp (hled.comp (outboxBlind_changed g))))

theorem outboxBlind_ledCycle2 : OutboxBlind ledCycle2 :=
  OutboxBlind.comp (f := cycle2Leds)
    (.ite (c := fun s => s.gameState = .starting) (outboxBlind_setState .race) .skip) .of_quiet

theorem outboxBlind_ledCycle : OutboxBlind ledCycle := by
  refine .arg (p := fun phase s => match phase with | .idle => s | .cycle1 => ledCycle1 s | .cycle2 => ledCycle2 s)
    (a := State.ledPhase) fun phase => ?_
  cases phase with
  | idle => exact .skip
  | cycle1 => exact .of_quiet
  | cycle2 => exact outboxBlind_ledCycle2

theorem outboxBlind_enterWrite : OutboxBlind enterWrite :=
  OutboxBlind.comp (f := ledCycle) (g := fun s =>
    { s with txBuf := encodeOut s.params s.opMode s.drive s.ledStatus, txIdx := 0, linkState := .write })
    .of_quiet outboxBlind_ledCycle

/-! The decode path. -/

theorem outboxBlind_bindingStep : OutboxBlind bindingStep :=
  have hpattern : OutboxBlind fun s => { s with ledStatus := bindingPattern s.params s.bindTarget } := .of_quiet
  have htraining : OutboxBlind fun s => requestLedReset (setState .training s) :=
    .comp .of_quiet (outboxBlind_setState .training)
  .ite (c := fun s => s.clock - s.bindStart < s.params.bindUs) hpattern htraining

theorem outboxBlind_connectivityOf (c : InFrame) (i : Slot) : OutboxBlind (connectivityOf c i) := by
  intro s
  by_cases h : connIn s.params c i = s.conn[i]
  · refine ⟨[], fun b => ?_⟩
    rw [connectivityOf_same h, connectivityOf_same (u := b.put s) h]
    rfl
  · obtain ⟨evs, hevs⟩ := outboxBlind_enqueue (.connectivityChange i (connIn s.params c i)) (showConn c i s)
    refine ⟨evs, fun b => ?_⟩
    rw [connectivityOf_changed h, connectivityOf_changed (u := b.put s) h]
    exact congrArg (fun u => { u with conn := s.conn.set i (connIn s.params c i) }) (hevs b)

theorem outboxBlind_driveOf (c p : InFrame) (i : Slot) : OutboxBlind (driveOf c p i) :=
  .of_quiet fun b s => by rw [driveOf_eq, driveOf_eq]; rfl

theorem outboxBlind_driveStep (c p : InFrame) : OutboxBlind (driveStep c p) :=
  .ite (c := fun s => s.gameState = .stopped) .skip (.forSlots (outboxBlind_driveOf c p))

theorem outboxBlind_recordCrossing (k : Slot) (now : Time) : OutboxBlind (recordCrossing k now) := by
  intro s
  by_cases h : s.cars[k].laps = 0
  · refine ⟨[], fun b => ?_⟩
    rw [recordCrossing_of_first h, recordCrossing_of_first (s := b.put s) h]
    rfl
  · let lap : Event :=
      .lap k s.cars[k].laps (lapTimeAt now s.cars[k]) (isRecord s.cars[k] (lapTimeAt now s.cars[k]))
    obtain ⟨evs, hevs⟩ := outboxBlind_enqueue lap (updateCar k (crossedCar now) s)
    refine ⟨evs, fun b => ?_⟩
    rw [recordCrossing_of_lap h, recordCrossing_of_lap (s := b.put s) h]
    exact hevs b

theorem outboxBlind_countLap (k : Slot) : OutboxBlind (countLap k) := by
  have hfinish : OutboxBlind fun s => if allFinished s then scheduleFinish s else s := .ite .of_quiet .skip
  have hcount : OutboxBlind fun s =>
      { updateCar k (fun car => { car with finished := true }) s with finishedCarCount := s.finishedCarCount + 1 } :=
    .of_quiet
  exact .ite (c := fun s => s.gameState = .race ∧ reachedTarget s k = true) (hfinish.comp hcount) .of_quiet

theorem outboxBlind_crossing (k : Slot) (now : Time) : OutboxBlind (crossing k now) := by
  have hlap : OutboxBlind (lapBookkeeping k now) := (outboxBlind_countLap k).comp (outboxBlind_recordCrossing k now)
  have hstart : OutboxBlind (falseStart k) := (outboxBlind_setState .stopped).comp (outboxBlind_enqueue (.falseStart k))
  have hgrid : OutboxBlind fun s => if s.gameState = .starting ∨ s.gameState = .countdown then falseStart k s else s :=
    .ite hstart .skip
  exact .ite (c := fun s => crossingCounts s k = true) hlap hgrid

theorem outboxBlind_updateCheck (now : Time) : OutboxBlind (updateCheck now) := by
  have hupdate : OutboxBlind fun s => enqueue (.gameUpdate s.gameTime (report s)) s :=
    .arg (a := fun s => .gameUpdate s.gameTime (report s)) outboxBlind_enqueue
  have hnext : OutboxBlind fun s => { s with nextUpdate := s.nextUpdate + s.params.updateUs } := .of_quiet
  exact .ite (c := fun s => gameTimeRuns s = true ∧ now > s.nextUpdate)
    (hnext.comp (hupdate.comp (f := rank) .of_quiet)) .skip

theorem outboxBlind_setGameTime (now : Time) : OutboxBlind (setGameTime now) :=
  .ite (c := fun s => gameTimeRuns s = true) .of_quiet .skip

theorem outboxBlind_crossingStep (c p : InFrame) : OutboxBlind (crossingStep c p) := by
  have hslot (now : Time) : OutboxBlind fun s => (crossingSlot (carIn c)).elim s fun k => crossing k now s := by
    cases crossingSlot (carIn c) with
    | none => exact .skip
    | some k => exact outboxBlind_crossing k now
  have hrun (now : Time) := (outboxBlind_updateCheck now).comp ((hslot now).comp (outboxBlind_setGameTime now))
  have htimer := OutboxBlind.arg (a := fun s => ticksToUs s.params (lapTimer s.params c)) hrun
  rw [show crossingStep c p = _ from funext fun s => crossingStep_eq s c p]
  exact .ite .skip htimer

theorem outboxBlind_buttonStep (c p : InFrame) : OutboxBlind (buttonStep c p) := by
  have hnotify (found : Option Button) :
      OutboxBlind fun s => match found with | some b => enqueue (.button b) s | none => s := by
    cases found with
    | none => exact .skip
    | some b => exact outboxBlind_enqueue (.button b)
  exact .ite (c := fun _ => buttonsIn c = buttonsIn p) .skip
    (.arg (a := fun s => buttonPriority.find? fun b => pressedIn s.params c (buttonCode b)) hnotify)

theorem outboxBlind_onFrame (c p : InFrame) : OutboxBlind (onFrame c p) := by
  have hsteps := (outboxBlind_buttonStep c p).comp ((outboxBlind_crossingStep c p).comp
    ((outboxBlind_driveStep c p).comp (.forSlots (outboxBlind_connectivityOf c))))
  exact .ite (c := fun s => s.gameState = .binding) outboxBlind_bindingStep hsteps

/-! The link cycle, the timers and the watchdog. -/

theorem outboxBlind_connectCheck : OutboxBlind connectCheck :=
  .ite (c := fun s => s.linkConnected = true) .skip .of_quiet

theorem outboxBlind_acceptFrame (f : InFrame) : OutboxBlind (acceptFrame f) := by
  have hframe : OutboxBlind fun s => onFrame f s.prevFrame s := .arg (a := State.prevFrame) (outboxBlind_onFrame f)
  have hstored : OutboxBlind fun s => { s with prevFrame := f } := .of_quiet
  have htimed : OutboxBlind fun s => { s with lastUpdate := s.clock } := .of_quiet
  exact hstored.comp (hframe.comp (outboxBlind_connectCheck.comp htimed))

theorem outboxBlind_completeFrame : OutboxBlind completeFrame := by
  have haccept : OutboxBlind fun s => acceptFrame s.rxBuf s := .arg (a := State.rxBuf) outboxBlind_acceptFrame
  have hcursor : OutboxBlind fun s => { s with rxCount := 0 } := .of_quiet
  exact outboxBlind_enterWrite.comp (hcursor.comp (.ite (c := fun s => frameOk s.params s.rxBuf = true) haccept .skip))

theorem outboxBlind_receiveByte (b : Byte) : OutboxBlind (receiveByte b) := by
  have hlast : OutboxBlind fun s => if s.rxCount = 15 then completeFrame s else s := .ite outboxBlind_completeFrame .skip
  exact hlast.comp (f := storeRx b) .of_quiet

theorem outboxBlind_transmitByte : OutboxBlind transmitByte := by
  refine .of_quiet fun b s => ?_
  rcases Nat.lt_trichotomy s.txIdx.toNat 8 with hlt | hlast | hge
  · rw [transmitByte_of_lt hlt rfl, transmitByte_of_lt (s := b.put s) hlt rfl]
    rfl
  · have hlast : s.txIdx = 8 := BitVec.eq_of_toNat_eq hlast
    rw [transmitByte_of_last hlast, transmitByte_of_last (s := b.put s) hlast]
    rfl
  · rw [transmitByte_of_ge hge, transmitByte_of_ge (s := b.put s) hge]

theorem outboxBlind_finishRace : OutboxBlind finishRace := by
  have hreport : OutboxBlind fun s => enqueue (.gameFinished s.gameTime (report s)) s :=
    .arg (a := fun s => .gameFinished s.gameTime (report s)) outboxBlind_enqueue
  exact hreport.comp (.comp (g := rank) .of_quiet (outboxBlind_setState .stopped))

theorem outboxBlind_reconnect : OutboxBlind reconnect := by
  rw [show reconnect = _ from funext reconnect_eq]
  exact outboxBlind_enterWrite.comp .of_quiet

/-! The instructions. -/

theorem outboxBlind_withCar (car : BitVec 4) {run : Slot → State → State} (h : ∀ i, OutboxBlind (run i)) :
    OutboxBlind fun s => withCar car s fun i => run i s := by
  unfold withCar
  cases carOperand car with
  | none => exact .of_quiet
  | some i => exact h i

theorem outboxBlind_respondSelected (value : Option (BitVec 32)) : OutboxBlind (respondSelected value) := by
  cases value <;> exact .of_quiet

theorem outboxBlind_respond (c : CmdStatus) (r : BitVec 32) : OutboxBlind (respond c r) := .of_quiet

/-- Every instruction ends in a next state, and none of them reads the outbox. -/
theorem exec_outboxBlind (i : Instr) : ∃ f, (∀ s, exec i s = .next (f s)) ∧ OutboxBlind f := by
  have hok : OutboxBlind (respond .ok 0) := outboxBlind_respond .ok 0
  have hreject : OutboxBlind reject := outboxBlind_respond .invalidArgument 0
  cases i with
  | stop => exact ⟨_, fun _ => rfl, hok.comp (.comp (g := cutPower) .of_quiet (outboxBlind_setState .stopped))⟩
  | init laps mask =>
    have hselect : OutboxBlind fun s => { resetRaceData (activate mask s) with targetLaps := laps.zeroExtend 32 } :=
      .of_quiet
    exact ⟨_, exec_init laps mask, .ite (hok.comp ((outboxBlind_setState .countdown).comp hselect)) hreject⟩
  | start =>
    have hgrid : OutboxBlind fun s => if s.gameState = .countdown then setState .starting s else s :=
      .ite (outboxBlind_setState .starting) .skip
    exact ⟨_, fun _ => rfl, hok.comp hgrid⟩
  | bind car =>
    have htarget (i : Slot) : OutboxBlind fun s => { s with bindStart := s.clock, bindTarget := i } := .of_quiet
    exact ⟨_, fun _ => rfl, outboxBlind_withCar car fun i =>
      hok.comp ((outboxBlind_setState .binding).comp ((htarget i).comp (outboxBlind_setState .stopped)))⟩
  | train =>
    exact ⟨_, fun _ => rfl, hok.comp (.comp (g := resetRaceData) .of_quiet (outboxBlind_setState .training))⟩
  | setPowerRate car pct =>
    exact ⟨_, exec_setPowerRate car pct, outboxBlind_withCar car fun i => .ite .of_quiet hreject⟩
  | setPower car pwr => exact ⟨_, exec_setPower car pwr, outboxBlind_withCar car fun i => .ite .of_quiet hreject⟩
  | setBrake car v | setLaneChange car v =>
    exact ⟨_, fun _ => rfl, outboxBlind_withCar car fun i => .of_quiet⟩
  | getGameState sel =>
    exact ⟨_, fun _ => rfl, .arg (a := fun s => gameStateSelector s sel) outboxBlind_respondSelected⟩
  | getLastUpdate sel =>
    exact ⟨_, fun _ => rfl, .arg (a := fun s => lastUpdateSelector s sel) outboxBlind_respondSelected⟩
  | ledReset => exact ⟨_, fun _ => rfl, .of_quiet⟩
  | rxByte data => exact ⟨_, fun _ => rfl, .ite (outboxBlind_receiveByte data) .skip⟩
  | txReady => exact ⟨_, fun _ => rfl, .ite outboxBlind_transmitByte .skip⟩
  | ioError => exact ⟨_, fun _ => rfl, .of_quiet⟩
  | watchdogTick => exact ⟨_, fun _ => rfl, .ite outboxBlind_reconnect .skip⟩
  | timerTick =>
    have hfinish : OutboxBlind fun s => if allFinished s then finishRace s else s := .ite outboxBlind_finishRace .skip
    have hclear : OutboxBlind fun s => { s with finishPending := false } := .of_quiet
    exact ⟨_, fun _ => rfl, .ite (hfinish.comp hclear) .skip⟩

/-- An instruction offers the outbox of its state some records, and offers any other outbox the same ones. -/
theorem exec_put (i : Instr) (s : State) :
    ∃ (t : State) (evs : List Event), exec i s = .next t ∧
      ∀ b : Outbox, exec i (b.put s) = .next ((b.offerAll evs).put t) := by
  obtain ⟨f, hexec, hblind⟩ := exec_outboxBlind i
  obtain ⟨evs, hput⟩ := hblind s
  exact ⟨f s, evs, hexec s, fun b => by rw [hexec, hput]⟩

/-- The outbox an instruction leaves is its state's with the records offered. -/
theorem put_of_exec_put {i : Instr} {s t : State} {evs : List Event} (he : exec i s = .next t)
    (hput : ∀ b : Outbox, exec i (b.put s) = .next ((b.offerAll evs).put t)) :
    t = ((Outbox.of s).offerAll evs).put t := by
  have hown := hput (.of s)
  rw [Outbox.put_of, he] at hown
  exact Host.Outcome.next.inj hown

/-- Settles O60: an unbounded outbox takes all the records offered, whatever its queue holds. -/
theorem consumerDelayNeverStallsTheBlock : Obligations.ConsumerDelayNeverStallsTheBlock := by
  intro i s hunbounded
  obtain ⟨t, evs, he, hput⟩ := exec_put i s
  have ht : t = ((Outbox.of s).offerAll evs).put t := put_of_exec_put he hput
  rw [Outbox.offerAll_unbounded hunbounded] at ht
  refine ⟨t, evs, he, congrArg State.eventQ ht, fun q => ?_⟩
  have hq := hput { Outbox.of s with queue := (q, s.fault.evqOverflow) }
  rw [Outbox.offerAll_unbounded hunbounded] at hq
  rw [ht]
  exact hq

end Sys2Proof.Machine
end

section
/-! The error classes (O59): what each instruction logs and what it leaves of the response, against the class it meets. -/

namespace Sys2Proof.Machine

variable {s t : State} {i : Instr}

/-! The diagnostic log (R145, R153, R251). -/

/-- What an instruction logs: an I/O error and a due watchdog tick their reports, the first good frame the connection. -/
def diagnosed (i : Instr) (s : State) : List DiagCode :=
  match i with
  | .ioError => [.ioFailure]
  | .watchdogTick => if reconnectDue s then [.disconnect, .reopen] else []
  | .rxByte b =>
    if s.linkState = .read ∧ s.rxCount = 14 ∧ frameOk s.params (completedFrame b s) = true ∧ s.linkConnected = false then
      [.connected]
    else []
  | _ => []

theorem diagnosed_of_command (hi : i.isCommand = true) : diagnosed i s = [] := by
  cases i with
  | rxByte _ | txReady | ioError | watchdogTick | timerTick => cases hi
  | _ => rfl

/-- A byte on any cursor but 14 completes no frame (R141). -/
theorem receiveByte_of_ne {b : Byte} (h : s.rxCount ≠ 14) : receiveByte b s = storeRx b s := by
  have hnotLast : (storeRx b s).rxCount ≠ 15 := by
    rw [storeRx_rxCount]
    bv_omega
  exact if_neg hnotLast

/-- Completing a frame logs the connection where the frame is good and the link was not connected (R145, R146). -/
theorem completeFrame_diagLog (s : State) :
    (completeFrame s).diagLog =
      s.diagLog ++ if frameOk s.params s.rxBuf = true ∧ s.linkConnected = false then [.connected] else [] := by
  cases hok : frameOk s.params s.rxBuf with
  | false => simp [completeFrame_of_corrupt hok]
  | true => cases hconn : s.linkConnected <;> simp [completeFrame_of_good hok, hconn]

/-! What an input event leaves of the log and of the response registers (R47). -/

@[simp] theorem completeFrame_cmdStatus (s : State) : (completeFrame s).cmdStatus = s.cmdStatus := by
  unfold completeFrame
  split <;> simp [acceptFrame_eq]

@[simp] theorem completeFrame_cmdResult (s : State) : (completeFrame s).cmdResult = s.cmdResult := by
  unfold completeFrame
  split <;> simp [acceptFrame_eq]

theorem transmitByte_frame (s : State) :
    transmitByte s =
      { s with
        txOut := (transmitByte s).txOut, txIdx := (transmitByte s).txIdx, rxCount := (transmitByte s).rxCount
        linkState := (transmitByte s).linkState } := by
  unfold transmitByte
  split
  · dsimp only
    split <;> rfl
  · rfl

/-- An input event logs `new` from `s` to `t`, and the response registers stay. A field a proof leaves out is
unchanged. -/
structure EventReport (new : List DiagCode) (s t : State) : Prop where
  diagLog : t.diagLog = s.diagLog ++ new := by simp
  cmdStatus : t.cmdStatus = s.cmdStatus := by simp
  cmdResult : t.cmdResult = s.cmdResult := by simp

theorem exec_rxByte_report {b : Byte} (he : exec (.rxByte b) s = .next t) :
    EventReport (diagnosed (.rxByte b) s) s t := by
  by_cases hread : s.linkState = .read
  · cases (exec_rxByte_of_read hread).symm.trans he
    by_cases hlast : s.rxCount = 14
    · rw [receiveByte_of_last hlast]
      exact { diagLog := by simp [completeFrame_diagLog, diagnosed, completedFrame, hread, hlast] }
    · have hnew : diagnosed (.rxByte b) s = [] := if_neg fun h => hlast h.2.1
      rw [receiveByte_of_ne hlast, hnew]
      exact {}
  · cases (exec_rxByte_of_not_read hread).symm.trans he
    have hnew : diagnosed (.rxByte b) s = [] := if_neg fun h => hread h.1
    rw [hnew]
    exact {}

theorem exec_event_report (hi : i.isCommand = false) (he : exec i s = .next t) : EventReport (diagnosed i s) s t := by
  cases i with
  | rxByte b => exact exec_rxByte_report he
  | txReady =>
    have hnew : diagnosed .txReady s = [] := rfl
    cases he
    rw [hnew]
    split
    · rw [transmitByte_frame]
      exact {}
    · exact {}
  | ioError => cases he; exact ⟨rfl, rfl, rfl⟩
  | watchdogTick =>
    cases he
    simp only [diagnosed]
    split
    · rw [reconnect_eq]
      exact {}
    · exact {}
  | timerTick =>
    have hnew : diagnosed .timerTick s = [] := rfl
    cases he
    rw [hnew]
    split
    · dsimp only
      split
      · rw [finishRace_frame]
        exact {}
      · exact {}
    · exact {}
  | _ => cases hi

theorem exec_diagLog (he : exec i s = .next t) : t.diagLog = s.diagLog ++ diagnosed i s := by
  cases hi : i.isCommand with
  | true => rw [diagnosed_of_command hi, List.append_nil, (exec_commandFrame hi he).diagLog]
  | false => exact (exec_event_report hi he).diagLog

/-! The error class an instruction meets (R270 to R274). -/

/-- A command meets no class but the invalid argument, and that exactly on operands R95 and R96 call invalid (R273). -/
theorem errorOf_of_command (hi : i.isCommand = true) :
    errorOf i s = if i.wellFormed s.params then none else some .invalidArgument := by
  cases i with
  | getGameState sel | getLastUpdate sel => simp only [errorOf, Instr.wellFormed, decide_eq_true_eq]
  | rxByte _ | txReady | ioError | watchdogTick | timerTick => cases hi
  | _ => rfl

theorem exec_command_status (hi : i.isCommand = true) (he : exec i s = .next t) :
    t.cmdStatus = .invalidArgument ↔ errorOf i s = some .invalidArgument := by
  rw [errorOf_of_command hi]
  cases hwf : i.wellFormed s.params with
  | false =>
    cases (exec_of_not_wellFormed hi hwf).symm.trans he
    exact iff_of_true rfl rfl
  | true =>
    obtain ⟨u, hu, hok⟩ := exec_of_wellFormed hi hwf
    cases hu.symm.trans he
    simp [hok]

/-- A corrupt frame is silent (R271). -/
theorem diagnosed_of_frameCorrupt (h : errorOf i s = some .frameCorrupt) : diagnosed i s = [] := by
  cases i with
  | rxByte b =>
    have hcorrupt : frameOk s.params (completedFrame b s) = false := by
      by_contra hok
      rw [errorOf, if_neg fun hall => hok hall.2.2] at h
      cases h
    exact if_neg fun hall => by simp [hcorrupt] at hall
  | ioError | watchdogTick => simp [errorOf] at h
  | _ => rfl

/-- An I/O error is met by the event of that name alone (R272). -/
theorem errorOf_eq_ioFailure_iff : errorOf i s = some .ioFailure ↔ i = .ioError := by
  cases i <;> simp [errorOf]

/-- Silence is found by a watchdog tick alone (R274). -/
theorem errorOf_eq_linkSilence_iff :
    errorOf i s = some .linkSilence ↔ i = .watchdogTick ∧ s.clock - s.lastUpdate > s.params.silenceUs := by
  cases i <;> simp [errorOf]

theorem ioFailure_mem_diagnosed_iff : .ioFailure ∈ diagnosed i s ↔ i = .ioError := by
  cases i <;> simp [diagnosed]

theorem lost_mem_diagnosed_iff :
    (.disconnect ∈ diagnosed i s ∨ .reopen ∈ diagnosed i s) ↔ i = .watchdogTick ∧ reconnectDue s = true := by
  cases i <;> simp [diagnosed]

/-- Settles O59: the log by `diagnosed`, the response by the command or the event, and the overflow bit by the records the
instruction offers, which an unbounded outbox is offered too. -/
theorem errorsAreReportedWhereTheyAreDetected : Obligations.ErrorsAreReportedWhereTheyAreDetected := by
  refine ⟨fun i s => ?_, fun w s h => runWord_reserved_command h s, fun e s h => runWord_reserved_event h s⟩
  obtain ⟨t, evs, he, hput⟩ := exec_put i s
  refine ⟨t, diagnosed i s, he, exec_diagLog he, diagnosed_of_frameCorrupt, ?io, ?ioOnly, ?silence, ?lost,
    fun hi => ⟨diagnosed_of_command hi, exec_command_status hi he⟩, ?response, ?queue⟩
  case io =>
    intro h
    cases errorOf_eq_ioFailure_iff.1 h
    rfl
  case ioOnly => exact fun h => errorOf_eq_ioFailure_iff.2 (ioFailure_mem_diagnosed_iff.1 h)
  case silence =>
    intro h
    obtain ⟨rfl, hgap⟩ := errorOf_eq_linkSilence_iff.1 h
    exact if_pos (reconnectDue_iff.2 (.inr hgap))
  case lost =>
    intro h
    obtain ⟨htick, hdue⟩ := lost_mem_diagnosed_iff.1 h
    exact ⟨htick, (reconnectDue_iff.1 hdue).imp_right fun hgap => errorOf_eq_linkSilence_iff.2 ⟨htick, hgap⟩⟩
  case response =>
    intro hi
    have hreport : EventReport (diagnosed i s) s t := exec_event_report hi he
    exact ⟨hreport.cmdStatus, hreport.cmdResult⟩
  case queue =>
    have hu := hput { Outbox.of s with depth := none }
    rw [Outbox.offerAll_unbounded rfl] at hu
    exact ⟨_, evs, hu, rfl, Outbox.raises_of_put (put_of_exec_put he hput)⟩

end Sys2Proof.Machine
end

section
/-! Every step and every instruction answers a next state (O7). -/

namespace Sys2Proof.Machine

theorem step_of_inputs_nil {s : State} (hin : s.inputs = []) : step s = .next s := by
  simp only [step, hin]

theorem exec_answers_next (i : Instr) (s : State) : ∃ t, exec i s = .next t := by
  obtain ⟨f, hexec, _⟩ := exec_outboxBlind i
  exact ⟨f s, hexec s⟩

/-- A word runs an instruction, or it is reserved and handled in place (R94, R100). -/
theorem runWord_answers_next (w : PortWord) (s : State) : ∃ t, runWord w s = .next t := by
  cases hd : decode w with
  | ok i =>
    rw [runWord_of_decode_ok hd]
    exact exec_answers_next i s
  | error r => exact (runWord_of_decode_error hd s).elim (⟨_, ·⟩) (⟨_, ·⟩)

theorem step_answers_next (s : State) : ∃ t, step s = .next t := by
  cases hin : s.inputs with
  | nil => exact ⟨s, step_of_inputs_nil hin⟩
  | cons inp rest =>
    rw [step_of_inputs_cons hin]
    exact runWord_answers_next inp.word (present inp rest s)

/-- Settles O7: a step stays where it is or runs one word, and every word answers a next state (R302, R315). -/
theorem noInputEndsTheOperation : Obligations.NoInputEndsTheOperation :=
  ⟨step_answers_next, exec_answers_next, fun _ => step_of_inputs_nil⟩

end Sys2Proof.Machine
end

section
/-! The words of spec/95_test_vectors.md §2.3 (O3). -/

namespace Sys2Proof

/-- The kind of an event word is its quotient by 0x100 (R98). -/
theorem kind_toNat (e : BitVec 12) : (e.extractLsb' 8 4).toNat = e.toNat / 0x100 := by
  rw [BitVec.extractLsb'_toNat, Nat.shiftRight_eq_div_pow]
  omega

/-- The reserved event words §2.3 lists are the word of no instruction: an `RX_BYTE` has kind 1, which makes it at least
0x100 and below 0x200, and the other four events have one word each (R99, R100). -/
theorem encode_ne_reservedEvent {e : BitVec 12} (he : e = 0x000 ∨ e = 0x201 ∨ 0x600 ≤ e) (i : Instr) :
    encode i ≠ .event e := by
  intro h
  cases i with
  | rxByte data =>
    have hkind := kind_toNat e
    rw [(kind_data_eq_iff.1 (PortWord.event.inj h)).1] at hkind
    rcases he with rfl | rfl | hle
    · exact absurd hkind (by decide)
    · exact absurd hkind (by decide)
    · bv_omega
  | txReady | ioError | watchdogTick | timerTick =>
    cases h
    exact absurd he (by decide)
  | _ => cases h

/-- Settles O3. A word decodes to an instruction exactly when it is the instruction's word, so each listed word is compared
with the word `encode` gives. -/
theorem listedWordsDecode : Obligations.ListedWordsDecode := by
  simp only [Obligations.ListedWordsDecode, ne_eq, decode_eq_ok_iff]
  exact ⟨rfl, rfl, rfl, rfl, rfl, rfl, rfl, rfl, rfl, rfl, rfl, rfl, rfl, rfl, rfl, rfl, rfl, rfl,
    fun _ => encode_ne_reservedEvent⟩

end Sys2Proof
end
